-- ==== Sys2Proof/Word.lean ====
section
/-!
DEFINITION. The bit vectors of CORE (10_state.md R10, R44, R47; 30_encoding.md R90, R93): everything is unsigned.
-/

namespace Sys2Proof

/-- A command word on the command port: 16 bits (30_encoding.md R90). -/
abbrev CmdWord := BitVec 16

/-- A key byte or an entropy byte: 8 bits (10_state.md R25, R47). -/
abbrev Byte := BitVec 8

/-- A symbol: a table entry, a cursor or a step output (00_scope.md R8, R14). `W` bits wide; held in 8 bits, of which
the low four are used when `W = 4` (log entry 15). -/
abbrev Sym := BitVec 8

/-- The data field of a response and the value of a CSR: 32 bits (30_encoding.md R93, 10_state.md R37). -/
abbrev Data := BitVec 32

/-- A response word: `code` in bits 35..32, `data` in bits 31..0 (30_encoding.md R93). -/
abbrev RspWord := BitVec 36

end Sys2Proof
end

