-- ==== Sys2Proof/Config.lean ====
section
/-!
DEFINITION. The implementation parameters of CORE (00_scope.md R8, R9) and the free values (93_implementation_defined.md U1, U2).
The two open parameters, `W` and `ENT_LEN`, are fixed when the block is instantiated; a `Build` names one instance.
-/

namespace Sys2Proof

/-- The build parameter `W`: 8 (the source's generator, normative) or 4 (the reduced-width instance), 00_scope.md R8. -/
inductive Width where
  | w8
  | w4
  deriving DecidableEq, Repr

/-- One instance of CORE: `W` and `ENT_LEN` (00_scope.md R8; 92_eei_decisions.md D3, D9). -/
structure Build where
  width  : Width
  entLen : Nat
  deriving DecidableEq, Repr

/-- `W`, the width in bits of a symbol. -/
def Build.W (b : Build) : Nat :=
  match b.width with
  | .w8 => 8
  | .w4 => 4

/-- `N = 2^W`: the number of table entries and the modulus of all cursor arithmetic. -/
def Build.N (b : Build) : Nat :=
  match b.width with
  | .w8 => 256
  | .w4 => 16

/-- `KMAX = N`: the capacity of the key buffer in bytes. -/
def Build.KMAX (b : Build) : Nat := b.N

/-- `IMG_LEN = N + 2`: the number of symbols in a state image. -/
def Build.IMG_LEN (b : Build) : Nat := b.N + 2

/-- `WORD_STEPS = 32 / W`: the steps one WORD performs. -/
def Build.WORD_STEPS (b : Build) : Nat := 32 / b.W

/-- `TXT_LEN = IMG_LEN * W / 4`: the characters in the text form of an image. -/
def Build.TXT_LEN (b : Build) : Nat := b.IMG_LEN * b.W / 4

/-- The normative instance with the default amount of entropy: `W = 8`, `ENT_LEN = 16` (00_scope.md R8). -/
def Build.normative : Build := ⟨.w8, 16⟩

/-- The reduced-width instance with the default amount of entropy: `W = 4`, `ENT_LEN = 16`. -/
def Build.reduced : Build := ⟨.w4, 16⟩

/-- The storage arrays of CORE (20_memory.md R60, 00_scope.md R11); the fourth index space, the CSRs, holds no storage. -/
inductive Space where
  | S
  | K
  | SH
  deriving DecidableEq, Repr

/-- How many elements a space has (20_memory.md R60). -/
def Space.size (sp : Space) (b : Build) : Nat :=
  match sp with
  | .S  => b.N
  | .K  => b.KMAX
  | .SH => b.IMG_LEN

/-- FREE VALUE: what an element of a storage array holds that nothing has written since reset or INIT
(10_state.md R51, R53; 93_implementation_defined.md U2). Unspecified; no rule reads it (R52). Log entry 4. -/
opaque Config.unwritten : Space → Nat → Byte

/-- FREE VALUE: the `n`-th byte the entropy source delivers beyond those named in advance by `State.entIn`
(40_key_and_seed.md R133; 93_implementation_defined.md U1). Under no law. Log entry 6. -/
opaque Config.entropyByte : Nat → Byte

end Sys2Proof
end

