-- ==== Sys2Proof/Syntax.lean ====
section
/-!
DEFINITION. The fifteen commands of CORE, one constructor per row of spec/opcode_table.json (30_encoding.md R97), their
operand forms (R91), and a command as the script language writes it (R103).
-/

namespace Sys2Proof

/-- A command of CORE with its operand as it stands: unsigned, not extended, not scaled (30_encoding.md R91, R97). -/
inductive Instr where
  /-- `NOP`, 44_system.md R231 -/
  | nop
  /-- `INIT`, 44_system.md R233 -/
  | init
  /-- `KCLR`, 40_key_and_seed.md R122 -/
  | kclr
  /-- `KEYB b`, 40_key_and_seed.md R123 -/
  | keyb (b : BitVec 8)
  /-- `SEED`, 40_key_and_seed.md R125 -/
  | seed
  /-- `ASEED`, 40_key_and_seed.md R131 -/
  | aseed
  /-- `NEXT`, 41_step.md R150 -/
  | next
  /-- `WORD`, 42_derived_outputs.md R170 -/
  | word
  /-- `SNAP`, 43_snapshot_restore.md R190 -/
  | snap
  /-- `SHRD a`, 43_snapshot_restore.md R195 -/
  | shrd (a : BitVec 12)
  /-- `LDBEG`, 43_snapshot_restore.md R198 -/
  | ldbeg
  /-- `LDSYM v`, 43_snapshot_restore.md R200 -/
  | ldsym (v : BitVec 12)
  /-- `RSTR`, 43_snapshot_restore.md R205 -/
  | rstr
  /-- `RDCSR n`, 44_system.md R236 -/
  | rdcsr (n : BitVec 12)
  /-- `CLRE`, 44_system.md R239 -/
  | clre
  deriving DecidableEq, Repr

/-- The four operand forms (30_encoding.md R91). -/
inductive Form where
  | Z
  | B
  | V
  | A
  deriving DecidableEq, Repr

/-- The mnemonics of the opcode map (30_encoding.md R97), in the order of their opcodes. -/
inductive Mnemonic where
  | NOP | INIT | KCLR | KEYB | SEED | ASEED | NEXT | WORD | SNAP | SHRD | LDBEG | LDSYM | RSTR | RDCSR | CLRE
  deriving DecidableEq, Repr

/-- The operand form of a mnemonic (30_encoding.md R91). -/
def Mnemonic.form : Mnemonic → Form
  | .KEYB => .B
  | .LDSYM => .V
  | .SHRD => .A
  | .RDCSR => .A
  | .NOP => .Z
  | .INIT => .Z
  | .KCLR => .Z
  | .SEED => .Z
  | .ASEED => .Z
  | .NEXT => .Z
  | .WORD => .Z
  | .SNAP => .Z
  | .LDBEG => .Z
  | .RSTR => .Z
  | .CLRE => .Z

/-- The mnemonic of a command. -/
def Instr.mnemonic : Instr → Mnemonic
  | .nop => .NOP
  | .init => .INIT
  | .kclr => .KCLR
  | .keyb _ => .KEYB
  | .seed => .SEED
  | .aseed => .ASEED
  | .next => .NEXT
  | .word => .WORD
  | .snap => .SNAP
  | .shrd _ => .SHRD
  | .ldbeg => .LDBEG
  | .ldsym _ => .LDSYM
  | .rstr => .RSTR
  | .rdcsr _ => .RDCSR
  | .clre => .CLRE

/-- A command as the script language writes it: a mnemonic and, after it, an operand or none (30_encoding.md R103). -/
structure ScriptCmd where
  mnemonic : Mnemonic
  operand  : Option Nat
  deriving DecidableEq, Repr

/-- The script line of a command. -/
def Instr.toScript : Instr → ScriptCmd
  | .keyb b => ⟨.KEYB, some b.toNat⟩
  | .shrd a => ⟨.SHRD, some a.toNat⟩
  | .ldsym v => ⟨.LDSYM, some v.toNat⟩
  | .rdcsr n => ⟨.RDCSR, some n.toNat⟩
  | .nop => ⟨.NOP, none⟩
  | .init => ⟨.INIT, none⟩
  | .kclr => ⟨.KCLR, none⟩
  | .seed => ⟨.SEED, none⟩
  | .aseed => ⟨.ASEED, none⟩
  | .next => ⟨.NEXT, none⟩
  | .word => ⟨.WORD, none⟩
  | .snap => ⟨.SNAP, none⟩
  | .ldbeg => ⟨.LDBEG, none⟩
  | .rstr => ⟨.RSTR, none⟩
  | .clre => ⟨.CLRE, none⟩

end Sys2Proof
end

