-- ==== Sys2Proof/WellFormed.lean ====
section
/-!
DEFINITION. Well-formed commands and builds. An operand fits its form (30_encoding.md R91, R103): none after a form-Z
mnemonic, 0 to 255 for form B, 0 to 4095 for forms V and A. The operands of `Instr` are bit vectors of exactly those
widths, so every `Instr` is well formed (Sys2Proof/Laws/PerInstr.lean); the check can fail on a script line.
-/

namespace Sys2Proof

/-- What a form takes as its operand. -/
def Form.accepts : Form → Option Nat → Bool
  | .Z, none => true
  | .Z, some _ => false
  | .B, some n => decide (n < 256)
  | .V, some n => decide (n < 4096)
  | .A, some n => decide (n < 4096)
  | .B, none => false
  | .V, none => false
  | .A, none => false

/-- A script line the assembler does not reject (30_encoding.md R103). -/
def ScriptCmd.wellFormed (c : ScriptCmd) : Bool := c.mnemonic.form.accepts c.operand

/-- A command whose operand fits its form. -/
def Instr.wellFormed (i : Instr) : Bool := i.toScript.wellFormed

/-- `1 <= ENT_LEN <= KMAX` (00_scope.md R8). -/
def Build.wellFormed (b : Build) : Bool := decide (1 ≤ b.entLen) && decide (b.entLen ≤ b.KMAX)

end Sys2Proof
end

