-- ==== Sys2Proof/Decode.lean ====
section
/-!
DEFINITION. The decoder, total on the 65536 command words (30_encoding.md R97 to R99), the encoder, written from the
same table (R90, R97), and the assembler of one script line (R103). A command port carries whole 16-bit words: no byte
order arises (R90, 20_memory.md R65).
-/

namespace Sys2Proof

/-- Why a word is illegal (30_encoding.md R98). -/
inductive Illegal where
  /-- opcode 0xF is reserved -/
  | reservedOpcode
  /-- a word of form Z with a non-zero operand -/
  | operandNotZero
  /-- a KEYB word with `operand[11:8] != 0` -/
  | keyByteTooWide
  deriving DecidableEq, Repr

/-- `opcode = cmd[15:12]` (30_encoding.md R90). -/
def opcodeOf (w : CmdWord) : BitVec 4 := w.extractLsb' 12 4

/-- `operand = cmd[11:0]` (30_encoding.md R90). -/
def operandOf (w : CmdWord) : BitVec 12 := w.extractLsb' 0 12

/-- Form Z: the operand must be 0 (30_encoding.md R91, R98). -/
def decodeZ (w : CmdWord) (i : Instr) : Except Illegal Instr :=
  if operandOf w = 0#12 then .ok i else .error .operandNotZero

/-- Form B: `operand[7:0]` is the byte, `operand[11:8]` must be 0 (30_encoding.md R91, R98). -/
def decodeB (w : CmdWord) (i : BitVec 8 → Instr) : Except Illegal Instr :=
  if (operandOf w).extractLsb' 8 4 = 0#4 then .ok (i ((operandOf w).extractLsb' 0 8)) else .error .keyByteTooWide

/-- The opcode map (30_encoding.md R97): every word is one command or illegal (R99), whatever the state and whatever `W`. -/
def decode (w : CmdWord) : Except Illegal Instr :=
  match (opcodeOf w).toNat with
  | 0x0 => decodeZ w .nop
  | 0x1 => decodeZ w .init
  | 0x2 => decodeZ w .kclr
  | 0x3 => decodeB w .keyb
  | 0x4 => decodeZ w .seed
  | 0x5 => decodeZ w .aseed
  | 0x6 => decodeZ w .next
  | 0x7 => decodeZ w .word
  | 0x8 => decodeZ w .snap
  | 0x9 => .ok (.shrd (operandOf w))
  | 0xA => decodeZ w .ldbeg
  | 0xB => .ok (.ldsym (operandOf w))
  | 0xC => decodeZ w .rstr
  | 0xD => .ok (.rdcsr (operandOf w))
  | 0xE => decodeZ w .clre
  | _ => .error .reservedOpcode

/-- `{opcode, operand}`: the opcode in the more significant bits (30_encoding.md R90). -/
def encodeWith (opcode : BitVec 4) (operand : BitVec 12) : CmdWord := opcode ++ operand

/-- The word of a command: `opcode << 12 | operand` (30_encoding.md R90, R97, R103). -/
def encode : Instr → CmdWord
  | .nop => encodeWith 0x0#4 0#12
  | .init => encodeWith 0x1#4 0#12
  | .kclr => encodeWith 0x2#4 0#12
  | .keyb b => encodeWith 0x3#4 (b.setWidth 12)
  | .seed => encodeWith 0x4#4 0#12
  | .aseed => encodeWith 0x5#4 0#12
  | .next => encodeWith 0x6#4 0#12
  | .word => encodeWith 0x7#4 0#12
  | .snap => encodeWith 0x8#4 0#12
  | .shrd a => encodeWith 0x9#4 a
  | .ldbeg => encodeWith 0xA#4 0#12
  | .ldsym v => encodeWith 0xB#4 v
  | .rstr => encodeWith 0xC#4 0#12
  | .rdcsr n => encodeWith 0xD#4 n
  | .clre => encodeWith 0xE#4 0#12

/-- The instruction a word numbered as spec/opcode_table.json numbers it decodes to. A command is one 16-bit word, so an
instruction of `nbits` bits is that word with every bit above `nbits` zero. -/
def decodeTableWord (nbits w : Nat) : Option Instr :=
  match decode (BitVec.ofNat 16 (w % 2 ^ nbits)) with
  | .ok i => some i
  | .error _ => none

/-- `opcode` of a mnemonic (30_encoding.md R97). -/
def Mnemonic.opcode : Mnemonic → Nat
  | .NOP => 0x0
  | .INIT => 0x1
  | .KCLR => 0x2
  | .KEYB => 0x3
  | .SEED => 0x4
  | .ASEED => 0x5
  | .NEXT => 0x6
  | .WORD => 0x7
  | .SNAP => 0x8
  | .SHRD => 0x9
  | .LDBEG => 0xA
  | .LDSYM => 0xB
  | .RSTR => 0xC
  | .RDCSR => 0xD
  | .CLRE => 0xE

/-- The assembler on one command: `opcode << 12 | operand`, or a rejection (30_encoding.md R103). -/
def assemble (c : ScriptCmd) : Option CmdWord :=
  if c.wellFormed then some (BitVec.ofNat 16 (c.mnemonic.opcode * 4096 + c.operand.getD 0)) else none

end Sys2Proof
end

