-- ==== Sys2Proof/Machine/State.lean ====
section
/-!
DEFINITION. The state of CORE as plain data (10_state.md section 1, R44, R45, R47), the reasons a step can stop, and the
state after reset (R50, R51). Fields carry the spec's names.
-/

namespace Sys2Proof.Machine

/-- The written elements of one storage array (20_memory.md R60): cells of an element index and a value, indices strictly
rising. An element that is not listed has not been written since reset or INIT and holds no value (10_state.md R51). -/
abbrev Memory := List Host.Cell

/-- The phases of `PH` (45_sequencer_fsm.md R251). -/
inductive Phase where
  | idle
  | ent
  | kfill
  | kmix
  | kdone
  | st1
  | st2
  | st3
  | st4
  | snapc
  | vchk
  | vperm
  | rcopy
  deriving DecidableEq, Repr

/-- The response codes (60_exceptions.md R291); codes 6 to 15 are never produced (93_implementation_defined.md U6). -/
inductive Code where
  | ok
  | eSeed
  | eState
  | eUnseeded
  | eIndex
  | eIllegal
  deriving DecidableEq, Repr

/-- Why the machine stops. CORE itself never stops: its errors are responses (60_exceptions.md R298). -/
inductive Fault where
  /-- Raised by a micro-step (Machine/Sequencer.lean) in a state whose phase is not one the table of 45_sequencer_fsm.md
  R251 gives to the command latched in `OPC`. The spec gives such a state no behaviour and no run reaches one from
  `PH = IDLE`. Safe: the model stops where the spec says nothing (log entry 12). -/
  | strayPhase
  deriving DecidableEq, Repr

/-- Why an instruction has no meaning. -/
inductive Refusal where
  /-- Raised by `exec` for a command that has no meaning yet. Every command has one, so nothing raises it. Safe. -/
  | notModelled (mnemonic : String)
  deriving DecidableEq, Repr

/-- Everything the spec gives CORE, the instance it is (`build`), and what the outside will do next (`cmdIn`, `entIn`,
`draws`: the model's own fields, log entries 2 and 6). -/
structure State where
  /-- The build parameters `W` and `ENT_LEN`, fixed at instantiation (00_scope.md R8; log entry 1). -/
  build : Build
  /-- The permutation table: `N` elements of `W` bits (R20). -/
  S : Memory
  /-- Cursor i (R21). -/
  I : Sym
  /-- Cursor j (R21). -/
  J : Sym
  /-- The live state holds a value (R23). -/
  SEEDED : Bool
  /-- The key buffer: `KMAX` elements of 8 bits (R25). -/
  K : Memory
  /-- The number of valid key bytes, `0 .. KMAX` (R26). -/
  KLEN : Nat
  /-- A key byte was dropped since the last clear (R27). -/
  KTRUNC : Bool
  /-- The shadow image: `IMG_LEN` elements of `W` bits (R31). -/
  SH : Memory
  /-- The number of valid shadow elements, `0 .. IMG_LEN` (R32). -/
  CNT : Nat
  /-- An out-of-range symbol was loaded (R33). -/
  LDBAD : Bool
  /-- More than `IMG_LEN` symbols were loaded (R34). -/
  LDOVF : Bool
  /-- An error response was given since the last clear (R36). -/
  ERR : Bool
  /-- The code of the most recent error response (R36). -/
  LASTERR : BitVec 4
  /-- The sequencer's phase (R44). -/
  PH : Phase
  /-- The latched command word (R44). -/
  OPC : CmdWord
  /-- The loop counter (R44). -/
  C : Nat
  /-- The key schedule's accumulator (R44). -/
  JA : Sym
  /-- The symbol read at `I` in a step (R44). -/
  TA : Sym
  /-- The symbol read at `J` in a step (R44). -/
  TB : Sym
  /-- The step output (R44). -/
  OUT : Sym
  /-- The word accumulator (R44). -/
  WACC : Data
  /-- The number of symbols accumulated (R44). -/
  WK : Nat
  /-- The validation bitmap, bit `v` for symbol `v` (R44). -/
  SEEN : BitVec 256
  /-- The number of entropy bytes taken (R44). -/
  ECNT : Nat
  /-- A response is waiting to be taken (R45). -/
  RV : Bool
  /-- The response word (R45). -/
  RSP : RspWord
  /-- The words the host will present on the command port, next first (R47; log entry 2). -/
  cmdIn : List CmdWord
  /-- The bytes the entropy source will deliver, next first (R47; log entry 6). -/
  entIn : List Byte
  /-- How many bytes were drawn while `entIn` was empty (log entry 6). -/
  draws : Nat
  deriving DecidableEq, Repr

/-- The state after reset of the instance `b` (10_state.md R50, R51; 70_reset_and_hazards.md R330): scalars and flags 0, `PH`
idle, no response waiting, the storage arrays holding no value (log entry 4), the sequencer's temporaries and the response
word, which the spec leaves unspecified, 0 (log entry 5), and nothing presented from outside (log entries 2 and 6). -/
def State.resetOf (b : Build) : State where
  build := b
  S := []
  I := 0#8
  J := 0#8
  SEEDED := false
  K := []
  KLEN := 0
  KTRUNC := false
  SH := []
  CNT := 0
  LDBAD := false
  LDOVF := false
  ERR := false
  LASTERR := 0#4
  PH := .idle
  OPC := 0#16
  C := 0
  JA := 0#8
  TA := 0#8
  TB := 0#8
  OUT := 0#8
  WACC := 0#32
  WK := 0
  SEEN := 0#256
  ECNT := 0
  RV := false
  RSP := 0#36
  cmdIn := []
  entIn := []
  draws := 0

/-- The machine right after reset: the normative instance `W = 8` with the default `ENT_LEN = 16` (00_scope.md R8;
10_state.md R50; log entry 1). -/
def State.reset : State := State.resetOf Build.normative

end Sys2Proof.Machine
end

