-- ==== Sys2Proof/Machine/Ops.lean ====
section
/-!
DEFINITION. The named operations over CORE's storage and registers: element access (00_scope.md R11, 20_memory.md R66), the
pure functions `KSA` and `STEP` (R13, R127, R151), the entropy draw (R133), and how every command ends: a response (R12,
R252) or an error response (R296), the only form an exception takes in CORE. There is no return from one (R298, R315).
-/

namespace Sys2Proof.Machine

/-! ### Symbols -/

/-- `n mod N`: the low `W` bits of a number (00_scope.md R10, 46_common_laws.md R285). -/
def low (b : Build) (n : Nat) : Sym := BitVec.ofNat 8 (n % b.N)

/-- `zext_32` of a symbol (30_encoding.md R94). -/
def zext32 (v : Sym) : Data := v.setWidth 32

/-! ### Storage arrays -/

/-- What a memory lists at an element index; `none` where nothing has been written (10_state.md R51). -/
def Memory.read : Memory → Nat → Option Byte
  | [], _ => none
  | (k, v) :: m, a => if a = k then some v else Memory.read m a

/-- Writing an element, in index order. -/
def Memory.write : Memory → Nat → Byte → Memory
  | [], a, v => [(a, v)]
  | (k, w) :: m, a, v =>
    if a < k then (a, v) :: (k, w) :: m
    else if a = k then (a, v) :: m
    else (k, w) :: Memory.write m a v

/-- The canonical form: indices strictly rising. An unlisted element holds no value, so no entry repeats one. -/
def Memory.wf (m : Memory) : Bool := decide (m.Pairwise fun x y => x.1 < y.1)

/-- An element is as wide as its space's elements: 8 bits in `K`, `W` bits in `S` and `SH` (20_memory.md R60). -/
def narrow (b : Build) (sp : Space) (v : Byte) : Byte :=
  match sp with
  | .K => v
  | .S => low b v.toNat
  | .SH => low b v.toNat

/-- Reading one whole element (20_memory.md R66). One that has not been written reads as a free value (log entry 4). -/
def elem (b : Build) (sp : Space) (m : Memory) (a : Nat) : Byte :=
  narrow b sp ((m.read a).getD (Config.unwritten sp a))

/-- Writing one whole element (20_memory.md R66). -/
def put (b : Build) (sp : Space) (m : Memory) (a : Nat) (v : Byte) : Memory := m.write a (narrow b sp v)

/-- `swap(m[x], m[y])`: the simultaneous exchange (00_scope.md R11, 20_memory.md R68). -/
def swap (b : Build) (sp : Space) (m : Memory) (x y : Nat) : Memory :=
  put b sp (put b sp m x (elem b sp m y)) y (elem b sp m x)

/-- `for a in 0 .. n-1: m[a] <- f a`, ascending. -/
def fill (b : Build) (sp : Space) (m : Memory) (n : Nat) (f : Nat → Byte) : Memory :=
  (List.range n).foldl (fun m a => put b sp m a (f a)) m

/-- The storage array of a space. -/
def State.array (s : State) (sp : Space) : Memory :=
  match sp with
  | .S => s.S
  | .K => s.K
  | .SH => s.SH

/-- `MemRead(space, a, 1)` (00_scope.md R11). -/
def State.memRead (s : State) (sp : Space) (a : Nat) : Byte := elem s.build sp (s.array sp) a

/-- `MemWrite(space, a, 1, v)` (00_scope.md R11). -/
def State.memWrite (s : State) (sp : Space) (a : Nat) (v : Byte) : State :=
  match sp with
  | .S => { s with S := put s.build .S s.S a v }
  | .K => { s with K := put s.build .K s.K a v }
  | .SH => { s with SH := put s.build .SH s.SH a v }

/-! ### The key schedule -/

/-- The identity table `T[a] = a` (40_key_and_seed.md R127, 45_sequencer_fsm.md R260). -/
def identityTable (b : Build) : Memory := fill b .S [] b.N fun a => BitVec.ofNat 8 a

/-- The accumulator after one iteration: `(j + T[i] + key byte) mod N`, with `T` before the swap (40_key_and_seed.md R127). -/
def mixAcc (b : Build) (T : Memory) (i : Nat) (j : Sym) (k : Byte) : Sym :=
  low b (j.toNat + (elem b .S T i).toNat + k.toNat)

/-- `key[i mod L]` (40_key_and_seed.md R127). Used on non-empty keys only. -/
def keyAt (key : List Byte) (i : Nat) : Byte := key.getD (i % key.length) 0#8

/-- `n` iterations of the key-schedule loop from counter `i`, accumulator `j` and table `T` (40_key_and_seed.md R127). -/
def mix (b : Build) (key : List Byte) : Nat → Nat → Sym → Memory → Memory
  | 0, _, _, T => T
  | n + 1, i, j, T =>
    mix b key n (i + 1) (mixAcc b T i j (keyAt key i)) (swap b .S T i (mixAcc b T i j (keyAt key i)).toNat)

/-- `KSA(key)`: the identity table mixed `N - 1` times, `i` from 0 to `N - 2` (40_key_and_seed.md R127, R129). -/
def ksa (b : Build) (key : List Byte) : Memory := mix b key (b.N - 1) 0 0#8 (identityTable b)

/-! ### The step -/

/-- The live state `{S, I, J}` (10_state.md R22). -/
structure Live where
  S : Memory
  I : Sym
  J : Sym
  deriving DecidableEq, Repr

/-- Action 1 of the step: `(I + 1) mod N` (41_step.md R151). -/
def nextI (b : Build) (l : Live) : Sym := low b (l.I.toNat + 1)

/-- Action 2: `(J + S[I]) mod N`, with the new `I` and the table before the swap. -/
def nextJ (b : Build) (l : Live) : Sym := low b (l.J.toNat + (elem b .S l.S (nextI b l).toNat).toNat)

/-- Action 3: the exchange of `S[I]` and `S[J]`, with the new cursors. -/
def nextS (b : Build) (l : Live) : Memory := swap b .S l.S (nextI b l).toNat (nextJ b l).toNat

/-- Action 4: `S[(S[I] + S[J]) mod N]`, all three reads after the swap. -/
def stepOut (b : Build) (l : Live) : Sym :=
  elem b .S (nextS b l)
    (low b ((elem b .S (nextS b l) (nextI b l).toNat).toNat + (elem b .S (nextS b l) (nextJ b l).toNat).toNat)).toNat

/-- The live state after `STEP(S, I, J)` (41_step.md R151). -/
def stepLive (b : Build) (l : Live) : Live := ⟨nextS b l, nextI b l, nextJ b l⟩

/-- `e <- (e * N + out) mod 2^32` (42_derived_outputs.md R170). -/
def accumulate (b : Build) (e : Data) (out : Sym) : Data := BitVec.ofNat 32 (e.toNat * b.N + out.toNat)

/-- `n` consecutive steps and the word that composes their outputs after `e` (42_derived_outputs.md R170). -/
def stepMany (b : Build) : Nat → Live → Data → Live × Data
  | 0, l, e => (l, e)
  | n + 1, l, e => stepMany b n (stepLive b l) (accumulate b e (stepOut b l))

/-- The live state of the machine. -/
def State.live (s : State) : Live := ⟨s.S, s.I, s.J⟩

/-- Writing the live state. -/
def State.setLive (s : State) (l : Live) : State := { s with S := l.S, I := l.I, J := l.J }

/-! ### Registers of the other parts -/

/-- `K[0 .. KLEN-1]`, in order of arrival (20_memory.md R65). -/
def State.key (s : State) : List Byte := (List.range s.KLEN).map fun a => elem s.build .K s.K a

/-- `KLEN <- 0; KTRUNC <- 0` (40_key_and_seed.md R122). -/
def State.clearKey (s : State) : State := { s with KLEN := 0, KTRUNC := false }

/-- `I <- 0; J <- 0; SEEDED <- 1`, the key discarded (40_key_and_seed.md R125, 45_sequencer_fsm.md R263). The key bytes are
dropped from `K` as well (10_state.md R28, 93_implementation_defined.md U10; log entry 8). -/
def State.finishSeed (s : State) : State :=
  { s with I := 0#8, J := 0#8, SEEDED := true, K := [], KLEN := 0, KTRUNC := false }

/-- `S <- KSA(key)` and the end of a seeding (40_key_and_seed.md R125, R131). -/
def State.seedWith (s : State) (key : List Byte) : State := State.finishSeed { s with S := ksa s.build key }

/-- The image of the live state: position 0 holds `I`, 1 holds `J`, `2+k` holds `S[k]` (20_memory.md R64). -/
def State.imageAt (s : State) (p : Nat) : Byte :=
  if p = 0 then s.I else if p = 1 then s.J else elem s.build .S s.S (p - 2)

/-- `CNT <- n; LDBAD <- 0; LDOVF <- 0` (43_snapshot_restore.md R190, R198). -/
def State.setCount (s : State) (n : Nat) : State := { s with CNT := n, LDBAD := false, LDOVF := false }

/-- `ERR <- 0; LASTERR <- 0` (44_system.md R239). -/
def State.clearError (s : State) : State := { s with ERR := false, LASTERR := 0#4 }

/-- Soft reset: every register of 10_state.md R50 at its reset value, the storage arrays unspecified again (44_system.md
R233, 10_state.md R53; log entry 9). -/
def State.softReset (s : State) : State :=
  { s with
    SEEDED := false, I := 0#8, J := 0#8, KLEN := 0, KTRUNC := false, CNT := 0, LDBAD := false, LDOVF := false,
    ERR := false, LASTERR := 0#4, S := [], K := [], SH := [] }

/-! ### The entropy port -/

/-- `draw_byte()`: the byte of the next transfer on the entropy port (40_key_and_seed.md R133). Its value is under no law:
the next of `entIn`, and where none is named in advance a free value (log entry 6). -/
def State.drawByte (s : State) : Byte × State :=
  match s.entIn with
  | b :: rest => (b, { s with entIn := rest })
  | [] => (Config.entropyByte s.draws, { s with draws := s.draws + 1 })

/-- `n` draws, ascending (40_key_and_seed.md R131). -/
def State.drawBytes : Nat → State → List Byte × State
  | 0, s => ([], s)
  | n + 1, s => (s.drawByte.1 :: (State.drawBytes n s.drawByte.2).1, (State.drawBytes n s.drawByte.2).2)

/-! ### How a command ends -/

/-- The 4-bit code field (60_exceptions.md R291). -/
def Code.bits : Code → BitVec 4
  | .ok => 0#4
  | .eSeed => 1#4
  | .eState => 2#4
  | .eUnseeded => 3#4
  | .eIndex => 4#4
  | .eIllegal => 5#4

/-- The response word `{code[3:0], data[31:0]}` (30_encoding.md R93). -/
def rspWord (c : Code) (d : Data) : RspWord := c.bits ++ d

/-- The code field of a response word. -/
def rspCode (r : RspWord) : BitVec 4 := r.extractLsb' 32 4

/-- The data field of a response word. -/
def rspData (r : RspWord) : Data := r.extractLsb' 0 32

/-- Finish(code, data): the error record if it is an error, the response slot, phase `IDLE` (45_sequencer_fsm.md R252). -/
def State.finish (s : State) (c : Code) (d : Data) : State :=
  { s with
    ERR := if c = .ok then s.ERR else true
    LASTERR := if c = .ok then s.LASTERR else c.bits
    RSP := rspWord c d
    RV := true
    PH := .idle }

/-- `respond(OK, data)` (00_scope.md R12). -/
def respond (d : Data) (s : State) : Host.Outcome State Fault Refusal := .next (s.finish .ok d)

/-- `raise E_X(data)`: taking an error. It sets `ERR` and `LASTERR`, answers, and changes nothing else; nothing is saved and
control goes nowhere (60_exceptions.md R296). -/
def raise (c : Code) (d : Data) (s : State) : Host.Outcome State Fault Refusal := .next (s.finish c d)

/-- An illegal word: accepted like any other, answered `E_ILLEGAL` (30_encoding.md R98). -/
def rejectWord (s : State) : Host.Outcome State Fault Refusal := raise .eIllegal 0#32 s

/-! ### The command and response ports -/

/-- Accepting a word: it leaves the port and is latched into `OPC` (30_encoding.md R92). -/
def State.acceptWord (s : State) (w : CmdWord) : State := { s with OPC := w, cmdIn := s.cmdIn.tail }

/-- The host takes the waiting response: `RV <- 0` (10_state.md R45, 45_sequencer_fsm.md R280). -/
def State.takeResponse (s : State) : State := { s with RV := false }

/-- Presenting a word on the command port so that it is accepted next: phase `IDLE`, no response waiting (10_state.md R45). -/
def State.presentWord (s : State) (w : CmdWord) : State := { s with cmdIn := w :: s.cmdIn, PH := .idle, RV := false }

end Sys2Proof.Machine
end

