-- ==== Sys2Proof/Machine/Operands.lean ====
section
/-!
DEFINITION. What a command makes of its operand (30_encoding.md R91) and how an operand indexes storage (46_common_laws.md
R287). Form Z has no operand; form B is the byte itself.
-/

namespace Sys2Proof.Machine

/-- Form V: the symbol a 12-bit value is stored as, `v mod N` (43_snapshot_restore.md R200). -/
def valueSym (b : Build) (v : BitVec 12) : Sym := low b v.toNat

/-- Form V: the value is out of range, `v >= N` (43_snapshot_restore.md R200, R201). -/
def valueOutOfRange (b : Build) (v : BitVec 12) : Bool := decide (b.N ≤ v.toNat)

/-- Form A into the shadow image: the operand indexes a valid symbol. `a < CNT`, and within the image, since every
`a >= IMG_LEN` is out of range (43_snapshot_restore.md R195, 20_memory.md R66; log entry 10). -/
def State.shadowIndexValid (s : State) (a : BitVec 12) : Bool :=
  decide (a.toNat < s.CNT) && decide (a.toNat < s.build.IMG_LEN)

/-- Form A into the CSR space: `n <= 3` (44_system.md R236). -/
def csrIndexValid (n : BitVec 12) : Bool := decide (n.toNat ≤ 3)

/-- Append with post-increment into the key buffer: `K[KLEN] <- v; KLEN <- KLEN + 1` (40_key_and_seed.md R123). -/
def State.appendKey (s : State) (v : Byte) : State :=
  { s with K := put s.build .K s.K s.KLEN v, KLEN := s.KLEN + 1 }

/-- Append with post-increment into the shadow image, `LDBAD` remembering a value out of range (43_snapshot_restore.md R200). -/
def State.appendSymbol (s : State) (v : BitVec 12) : State :=
  { s with
    SH := put s.build .SH s.SH s.CNT (valueSym s.build v)
    LDBAD := s.LDBAD || valueOutOfRange s.build v
    CNT := s.CNT + 1 }

end Sys2Proof.Machine
end

