-- ==== Sys2Proof/Machine/Key.lean ====
section
/-!
DEFINITION. The key-scheduling engine: KCLR, KEYB, SEED and ASEED (40_key_and_seed.md).
-/

namespace Sys2Proof.Machine

/-- `KCLR`: clear the key buffer (40_key_and_seed.md R122). -/
def execKclr (s : State) : Host.Outcome State Fault Refusal := respond 0#32 s.clearKey

/-- `KEYB b`: append one key byte; on a full buffer drop it and set `KTRUNC` (40_key_and_seed.md R123, R124). -/
def execKeyb (b : BitVec 8) (s : State) : Host.Outcome State Fault Refusal :=
  if s.KLEN < s.build.KMAX then respond 0#32 (s.appendKey b) else respond 0#32 { s with KTRUNC := true }

/-- `SEED`: run the key schedule over the key buffer; `E_SEED` if it is empty (40_key_and_seed.md R125). -/
def execSeed (s : State) : Host.Outcome State Fault Refusal :=
  if s.KLEN = 0 then raise .eSeed 0#32 s else respond 0#32 (s.seedWith s.key)

/-- `ASEED`: discard the pending key bytes, draw `ENT_LEN` bytes and run the key schedule over them (40_key_and_seed.md R131,
R132), under the premise that they arrive (R134; log entry 6). The drawn bytes pass through `K` and are dropped with it. -/
def execAseed (s : State) : Host.Outcome State Fault Refusal :=
  respond 0#32 ((State.drawBytes s.build.entLen s.clearKey).2.seedWith (State.drawBytes s.build.entLen s.clearKey).1)

end Sys2Proof.Machine
end

