-- ==== Sys2Proof/Machine/Shadow.lean ====
section
/-!
DEFINITION. The snapshot/restore registers: SNAP, SHRD, LDBEG, LDSYM and RSTR (43_snapshot_restore.md).
-/

namespace Sys2Proof.Machine

/-- The live state copied into the shadow bank (43_snapshot_restore.md R190). -/
def State.captureImage (s : State) : State :=
  State.setCount { s with SH := fill s.build .SH s.SH s.build.IMG_LEN s.imageAt } s.build.IMG_LEN

/-- `SNAP`: copy the live state into the shadow bank; `E_UNSEEDED` while there is none (43_snapshot_restore.md R190). -/
def execSnap (s : State) : Host.Outcome State Fault Refusal :=
  if s.SEEDED then respond 0#32 s.captureImage else raise .eUnseeded 0#32 s

/-- `SHRD a`: read one symbol of the shadow image (43_snapshot_restore.md R195). -/
def execShrd (a : BitVec 12) (s : State) : Host.Outcome State Fault Refusal :=
  if s.shadowIndexValid a then respond (zext32 (elem s.build .SH s.SH a.toNat)) s else raise .eIndex 0#32 s

/-- `LDBEG`: begin loading an image (43_snapshot_restore.md R198). -/
def execLdbeg (s : State) : Host.Outcome State Fault Refusal := respond 0#32 (s.setCount 0)

/-- `LDSYM v`: append one symbol to the image being loaded; one too many is not stored and sets `LDOVF`
(43_snapshot_restore.md R200). -/
def execLdsym (v : BitVec 12) (s : State) : Host.Outcome State Fault Refusal :=
  if s.CNT < s.build.IMG_LEN then respond 0#32 (s.appendSymbol v) else respond 0#32 { s with LDOVF := true }

/-- The table symbols of the shadow image, `SH[2 .. N+1]`. -/
def State.shadowTable (s : State) : List Sym := (List.range s.build.N).map fun k => elem s.build .SH s.SH (k + 2)

/-- `SH[2 .. N+1]` is a permutation of `0 .. N-1`: `N` values of that range that are all different (43_snapshot_restore.md
R205, R206). -/
def State.shadowIsPermutation (s : State) : Bool := decide s.shadowTable.Nodup

/-- The reason a restore is rejected for, the first that holds in the order of 43_snapshot_restore.md R205, if any. -/
def State.restoreReason (s : State) : Option Data :=
  if s.LDOVF then some 2#32
  else if s.CNT ≠ s.build.IMG_LEN then some 1#32
  else if s.LDBAD then some 3#32
  else if s.shadowIsPermutation then none
  else some 4#32

/-- The shadow image copied into the live state (43_snapshot_restore.md R205). -/
def State.installImage (s : State) : State :=
  { s with
    I := elem s.build .SH s.SH 0
    J := elem s.build .SH s.SH 1
    S := fill s.build .S s.S s.build.N fun k => elem s.build .SH s.SH (k + 2)
    SEEDED := true }

/-- `RSTR`: validate the shadow image and, if it is valid, make it the live state (43_snapshot_restore.md R205, R208). -/
def execRstr (s : State) : Host.Outcome State Fault Refusal :=
  match s.restoreReason with
  | some r => raise .eState r s
  | none => respond 0#32 s.installImage

end Sys2Proof.Machine
end

