-- ==== Sys2Proof/Machine/Stream.lean ====
section
/-!
DEFINITION. The shuffle-and-output pipeline: NEXT (41_step.md) and WORD (42_derived_outputs.md).
-/

namespace Sys2Proof.Machine

/-- `NEXT`: one step, its output zero-extended; `E_UNSEEDED` while there is no live state (41_step.md R150). -/
def execNext (s : State) : Host.Outcome State Fault Refusal :=
  if s.SEEDED then respond (zext32 (stepOut s.build s.live)) (s.setLive (stepLive s.build s.live))
  else raise .eUnseeded 0#32 s

/-- `WORD`: `WORD_STEPS` steps, their outputs as one 32-bit word, the first most significant (42_derived_outputs.md R170). -/
def execWord (s : State) : Host.Outcome State Fault Refusal :=
  if s.SEEDED then
    respond (stepMany s.build s.build.WORD_STEPS s.live 0#32).2
      (s.setLive (stepMany s.build s.build.WORD_STEPS s.live 0#32).1)
  else raise .eUnseeded 0#32 s

end Sys2Proof.Machine
end

