-- ==== Sys2Proof/Machine/Flags.lean ====
section
/-!
DEFINITION. The control and status registers (10_state.md R37 to R41), each computed from the state when it is read: no
CSR has storage of its own. CORE has no condition codes (R36).
-/

namespace Sys2Proof.Machine

/-- A flag as one bit. -/
def flag (f : Bool) : BitVec 1 := BitVec.ofBool f

/-- CSR 0, `ID`: 0x5243, the interface version 0x01, and `W` (10_state.md R38). -/
def csrID (b : Build) : Data := 0x5243#16 ++ 0x01#8 ++ BitVec.ofNat 8 b.W

/-- `STATUS.W4`: hardwired, 1 if `W = 4` (10_state.md R39). -/
def isW4 (b : Build) : Bool :=
  match b.width with
  | .w4 => true
  | .w8 => false

/-- CSR 1, `STATUS` (10_state.md R39): reserved, W4, LDOVF, LDBAD, KTRUNC, SEEDED, ERR, LASTERR from bit 31 down. -/
def State.csrSTATUS (s : State) : Data :=
  0#22 ++ flag (isW4 s.build) ++ flag s.LDOVF ++ flag s.LDBAD ++ flag s.KTRUNC ++ flag s.SEEDED ++ flag s.ERR ++ s.LASTERR

/-- CSR 2, `KLEN`: bits `W..0` hold `KLEN`, the rest read 0 (10_state.md R40). -/
def State.csrKLEN (s : State) : Data := BitVec.ofNat 32 (s.KLEN % 2 ^ (s.build.W + 1))

/-- CSR 3, `CNT`: bits `W+1..0` hold `CNT`, the rest read 0 (10_state.md R41). -/
def State.csrCNT (s : State) : Data := BitVec.ofNat 32 (s.CNT % 2 ^ (s.build.W + 2))

/-- `CSR[n]` for an implemented number `n` (10_state.md R37). -/
def State.csr (s : State) (n : BitVec 12) : Data :=
  if n.toNat = 0 then csrID s.build
  else if n.toNat = 1 then s.csrSTATUS
  else if n.toNat = 2 then s.csrKLEN
  else s.csrCNT

end Sys2Proof.Machine
end

