-- ==== Sys2Proof/Machine/System.lean ====
section
/-!
DEFINITION. The system commands NOP, INIT, RDCSR and CLRE (44_system.md).
-/

namespace Sys2Proof.Machine

/-- `NOP`: no state changes, the error record included (44_system.md R231). -/
def execNop (s : State) : Host.Outcome State Fault Refusal := respond 0#32 s

/-- `INIT`: soft reset (44_system.md R233). -/
def execInit (s : State) : Host.Outcome State Fault Refusal := respond 0#32 s.softReset

/-- `RDCSR n`: read a control and status register as it was before the command (44_system.md R236). -/
def execRdcsr (n : BitVec 12) (s : State) : Host.Outcome State Fault Refusal :=
  if csrIndexValid n then respond (s.csr n) s else raise .eIndex 0#32 s

/-- `CLRE`: clear the error record and nothing else (44_system.md R239). -/
def execClre (s : State) : Host.Outcome State Fault Refusal := respond 0#32 s.clearError

end Sys2Proof.Machine
end

