-- ==== Sys2Proof/Machine/Dispatch.lean ====
section
/-!
DEFINITION. One arm per command: its meaning as one indivisible transition (20_memory.md R71).
-/

namespace Sys2Proof.Machine

def exec (i : Instr) (s : State) : Host.Outcome State Fault Refusal :=
  match i with
  | .nop => Sys2Proof.Machine.execNop s
  | .init => Sys2Proof.Machine.execInit s
  | .kclr => Sys2Proof.Machine.execKclr s
  | .keyb b => Sys2Proof.Machine.execKeyb b s
  | .seed => Sys2Proof.Machine.execSeed s
  | .aseed => Sys2Proof.Machine.execAseed s
  | .next => Sys2Proof.Machine.execNext s
  | .word => Sys2Proof.Machine.execWord s
  | .snap => Sys2Proof.Machine.execSnap s
  | .shrd a => Sys2Proof.Machine.execShrd a s
  | .ldbeg => Sys2Proof.Machine.execLdbeg s
  | .ldsym v => Sys2Proof.Machine.execLdsym v s
  | .rstr => Sys2Proof.Machine.execRstr s
  | .rdcsr n => Sys2Proof.Machine.execRdcsr n s
  | .clre => Sys2Proof.Machine.execClre s

end Sys2Proof.Machine
end

