-- ==== Sys2Proof/Machine/Sequencer.lean ====
section
/-!
DEFINITION. The permutation-table FSM (45_sequencer_fsm.md): what the IDLE phase does with an accepted word at the command
level (`runWord`) and at the micro-step level (`startWord`), and the micro-steps of every phase. The command rules are the
architecture; the micro-steps refine them (R250, R282).
-/

namespace Sys2Proof.Machine

/-! ### The command level -/

/-- An accepted word carried out as one transition: the command it decodes to, or `E_ILLEGAL` (30_encoding.md R98, R99). -/
def runWord (w : CmdWord) (s : State) : Host.Outcome State Fault Refusal :=
  match decode w with
  | .ok i => exec i s
  | .error _ => rejectWord s

/-! ### Phases -/

/-- The command in flight: the one latched in `OPC` (45_sequencer_fsm.md R253). -/
def State.inFlight (s : State) : Option Instr :=
  match decode s.OPC with
  | .ok i => some i
  | .error _ => none

/-- The commands a phase serves, the second column of the table of 45_sequencer_fsm.md R251. -/
def Phase.serves (p : Phase) (i : Instr) : Bool :=
  match p with
  | .idle => false
  | .ent => decide (i = .aseed)
  | .kfill => decide (i = .seed) || decide (i = .aseed)
  | .kmix => decide (i = .seed) || decide (i = .aseed)
  | .kdone => decide (i = .seed) || decide (i = .aseed)
  | .st1 => decide (i = .next) || decide (i = .word)
  | .st2 => decide (i = .next) || decide (i = .word)
  | .st3 => decide (i = .next) || decide (i = .word)
  | .st4 => decide (i = .next) || decide (i = .word)
  | .snapc => decide (i = .snap)
  | .vchk => decide (i = .rstr)
  | .vperm => decide (i = .rstr)
  | .rcopy => decide (i = .rstr)

/-- The phase is one of the command in flight. -/
def State.phaseServed (s : State) : Bool :=
  match s.inFlight with
  | some i => s.PH.serves i
  | none => false

/-- `PH <- p`. -/
def State.enter (s : State) (p : Phase) : State := { s with PH := p }

/-! ### The micro-steps -/

/-- Phase `ENT`: one entropy byte if there is a transfer, else wait (45_sequencer_fsm.md R262). -/
def State.microEnt (s : State) (ent : Option Byte) : State :=
  match ent with
  | none => s
  | some v =>
    if s.ECNT = s.build.entLen - 1 then { s with K := put s.build .K s.K s.ECNT v, C := 0, PH := .kfill }
    else { s with K := put s.build .K s.K s.ECNT v, ECNT := s.ECNT + 1 }

/-- Phase `KFILL`: one identity entry (45_sequencer_fsm.md R260). -/
def State.microKfill (s : State) : State :=
  if s.C = s.build.N - 1 then
    { s with S := put s.build .S s.S s.C (BitVec.ofNat 8 s.C), C := 0, JA := 0#8, PH := .kmix }
  else { s with S := put s.build .S s.S s.C (BitVec.ofNat 8 s.C), C := s.C + 1 }

/-- The key length `L` of the mixing loop: `KLEN` for SEED, `ENT_LEN` for ASEED (45_sequencer_fsm.md R261). -/
def State.mixLength (s : State) : Nat := if s.inFlight = some .aseed then s.build.entLen else s.KLEN

/-- The new accumulator of one mixing iteration (45_sequencer_fsm.md R261). -/
def State.mixJA (s : State) : Sym := mixAcc s.build s.S s.C s.JA (elem s.build .K s.K (s.C % s.mixLength))

/-- Phase `KMIX`: one iteration of the key-schedule loop (45_sequencer_fsm.md R261). -/
def State.microKmix (s : State) : State :=
  if s.C = s.build.N - 2 then
    { s with JA := s.mixJA, S := swap s.build .S s.S s.C s.mixJA.toNat, PH := .kdone }
  else { s with JA := s.mixJA, S := swap s.build .S s.S s.C s.mixJA.toNat, C := s.C + 1 }

/-- Phase `ST1`: the new `I`, and the symbol there (45_sequencer_fsm.md R265). -/
def State.microSt1 (s : State) : State :=
  { s with I := nextI s.build s.live, TA := elem s.build .S s.S (nextI s.build s.live).toNat, PH := .st2 }

/-- Phase `ST2`: the new `J`, and the symbol there (45_sequencer_fsm.md R265). -/
def State.microSt2 (s : State) : State :=
  { s with
    J := low s.build (s.J.toNat + s.TA.toNat)
    TB := elem s.build .S s.S (low s.build (s.J.toNat + s.TA.toNat)).toNat
    PH := .st3 }

/-- Phase `ST3`: the two writes of the exchange (45_sequencer_fsm.md R265). -/
def State.microSt3 (s : State) : State :=
  { s with S := put s.build .S (put s.build .S s.S s.I.toNat s.TB) s.J.toNat s.TA, PH := .st4 }

/-- Phase `ST4`'s read: `S[(TA + TB) mod N]`, the table as `ST3` left it (45_sequencer_fsm.md R265). -/
def State.st4Out (s : State) : Sym := elem s.build .S s.S (low s.build (s.TA.toNat + s.TB.toNat)).toNat

/-- Phase `ST4`: the output; NEXT answers it, WORD shifts it in and answers after `WORD_STEPS` symbols, else starts the next
step (45_sequencer_fsm.md R265, R266). -/
def State.microSt4 (s : State) : State :=
  if s.inFlight = some .next then State.finish { s with OUT := s.st4Out } .ok (zext32 s.st4Out)
  else if s.WK + 1 = s.build.WORD_STEPS then
    State.finish { s with OUT := s.st4Out, WACC := accumulate s.build s.WACC s.st4Out, WK := s.WK + 1 } .ok
      (accumulate s.build s.WACC s.st4Out)
  else { s with OUT := s.st4Out, WACC := accumulate s.build s.WACC s.st4Out, WK := s.WK + 1, PH := .st1 }

/-- Phase `SNAPC`: one symbol live to shadow; the count and flags change with the last (45_sequencer_fsm.md R270). -/
def State.microSnapc (s : State) : State :=
  if s.C = s.build.N + 1 then
    State.finish (State.setCount { s with SH := put s.build .SH s.SH s.C (s.imageAt s.C) } s.build.IMG_LEN) .ok 0#32
  else { s with SH := put s.build .SH s.SH s.C (s.imageAt s.C), C := s.C + 1 }

/-- Phase `VCHK`: the three flag checks (45_sequencer_fsm.md R272). -/
def State.microVchk (s : State) : State :=
  if s.LDOVF then s.finish .eState 2#32
  else if s.CNT ≠ s.build.IMG_LEN then s.finish .eState 1#32
  else if s.LDBAD then s.finish .eState 3#32
  else { s with SEEN := 0#256, C := 0, PH := .vperm }

/-- Phase `VPERM`: one table symbol against the bitmap (45_sequencer_fsm.md R273). -/
def State.microVperm (s : State) : State :=
  if s.SEEN.getLsbD (elem s.build .SH s.SH (2 + s.C)).toNat then s.finish .eState 4#32
  else if s.C = s.build.N - 1 then
    { s with SEEN := s.SEEN ||| BitVec.twoPow 256 (elem s.build .SH s.SH (2 + s.C)).toNat, C := 0, PH := .rcopy }
  else { s with SEEN := s.SEEN ||| BitVec.twoPow 256 (elem s.build .SH s.SH (2 + s.C)).toNat, C := s.C + 1 }

/-- The write of phase `RCOPY` (45_sequencer_fsm.md R274). -/
def State.rcopyWrite (s : State) : State :=
  if s.C = 0 then { s with I := elem s.build .SH s.SH 0 }
  else if s.C = 1 then { s with J := elem s.build .SH s.SH 1 }
  else { s with S := put s.build .S s.S (s.C - 2) (elem s.build .SH s.SH s.C) }

/-- Phase `RCOPY`: one symbol shadow to live; it cannot fail (45_sequencer_fsm.md R274). -/
def State.microRcopy (s : State) : State :=
  if s.C = s.build.N + 1 then State.finish { s.rcopyWrite with SEEDED := true } .ok 0#32
  else { s.rcopyWrite with C := s.C + 1 }

/-- What one micro-step does in each phase (45_sequencer_fsm.md R251); `ent` is the byte transferred on the entropy port, if
any. -/
def State.microNext (s : State) (ent : Option Byte) : State :=
  match s.PH with
  | .idle => s
  | .ent => s.microEnt ent
  | .kfill => s.microKfill
  | .kmix => s.microKmix
  | .kdone => State.finish s.finishSeed .ok 0#32
  | .st1 => s.microSt1
  | .st2 => s.microSt2
  | .st3 => s.microSt3
  | .st4 => s.microSt4
  | .snapc => s.microSnapc
  | .vchk => s.microVchk
  | .vperm => s.microVperm
  | .rcopy => s.microRcopy

/-- One micro-step of the command in flight. A phase that does not serve it has no behaviour (log entry 12). -/
def microStep (ent : Option Byte) (s : State) : Host.Outcome State Fault Refusal :=
  if s.PH = .idle then .next s
  else if s.phaseServed then .next (s.microNext ent)
  else .fault .strayPhase

/-! ### Starting a command -/

/-- Phase `IDLE` with a decoded word latched: the short commands and the early errors finish at once, the others enter their
first phase (45_sequencer_fsm.md R253). -/
def startCommand (i : Instr) (s : State) : Host.Outcome State Fault Refusal :=
  match i with
  | .seed => if s.KLEN = 0 then raise .eSeed 0#32 s else .next { s with C := 0, PH := .kfill }
  | .aseed => .next { s.clearKey with ECNT := 0, PH := .ent }
  | .next => if s.SEEDED then .next (s.enter .st1) else raise .eUnseeded 0#32 s
  | .word => if s.SEEDED then .next { s with WACC := 0#32, WK := 0, PH := .st1 } else raise .eUnseeded 0#32 s
  | .snap => if s.SEEDED then .next { s with C := 0, PH := .snapc } else raise .eUnseeded 0#32 s
  | .rstr => .next (s.enter .vchk)
  | .nop => execNop s
  | .init => execInit s
  | .kclr => execKclr s
  | .keyb b => execKeyb b s
  | .ldbeg => execLdbeg s
  | .ldsym v => execLdsym v s
  | .shrd a => execShrd a s
  | .rdcsr n => execRdcsr n s
  | .clre => execClre s

/-- Phase `IDLE` with a word accepted: latch it, decode it, start it (45_sequencer_fsm.md R253). -/
def startWord (w : CmdWord) (s : State) : Host.Outcome State Fault Refusal :=
  match decode w with
  | .ok i => startCommand i { s with OPC := w }
  | .error _ => rejectWord { s with OPC := w }

/-! ### Runs of micro-steps -/

/-- One micro-step of the command in flight, the entropy source delivering whenever `ENT` asks (40_key_and_seed.md R134;
log entry 6). -/
def advance (s : State) : Host.Outcome State Fault Refusal :=
  if s.PH = .ent then microStep (some s.drawByte.1) s.drawByte.2 else microStep none s

/-- `n` micro-steps. -/
def advanceMany : Nat → State → Host.Outcome State Fault Refusal
  | 0, s => .next s
  | n + 1, s =>
    match advance s with
    | .next t => advanceMany n t
    | .fault f => .fault f
    | .refused r => .refused r

/-- How many micro-steps follow the IDLE decode, at most (70_reset_and_hazards.md R337). -/
def microBound (b : Build) : Instr → Nat
  | .seed => 2 * b.N
  | .aseed => b.entLen + 2 * b.N
  | .next => 4
  | .word => 4 * b.WORD_STEPS
  | .snap => b.N + 2
  | .rstr => 2 * b.N + 3
  | .nop => 0
  | .init => 0
  | .kclr => 0
  | .keyb _ => 0
  | .shrd _ => 0
  | .ldbeg => 0
  | .ldsym _ => 0
  | .rdcsr _ => 0
  | .clre => 0

/-- A state with the sequencer's temporaries forgotten: what 45_sequencer_fsm.md R282 compares, together with the phase and
the response slot. -/
def State.forgetTemporaries (s : State) : State :=
  { s with OPC := 0#16, C := 0, JA := 0#8, TA := 0#8, TB := 0#8, OUT := 0#8, WACC := 0#32, WK := 0, SEEN := 0#256, ECNT := 0 }

end Sys2Proof.Machine
end

