-- ==== Sys2Proof/Machine/Step.lean ====
section
/-!
DEFINITION. One step of CORE at the command level, and where a word stands that the next step accepts.
-/

namespace Sys2Proof.Machine

/-- One step. A command left in flight goes on by one micro-step (log entry 13); else a waiting response is taken by the host
(10_state.md R45; log entry 3); else the next word of the host is accepted and carried out as one transition (20_memory.md
R71, 30_encoding.md R92); with no word offered IDLE does nothing (45_sequencer_fsm.md R253; log entry 2). -/
def step (s : State) : Host.Outcome State Fault Refusal :=
  if s.PH ≠ .idle then advance s
  else if s.RV then .next s.takeResponse
  else
    match s.cmdIn with
    | [] => .next s
    | w :: _ => runWord w (s.acceptWord w)

/-- `s` with a command word presented on the command port and CORE ready to accept it, so that the next step runs it: phase
`IDLE` and no response waiting (10_state.md R45). A command is one 16-bit word; bits above `nbits` are zero. -/
def State.withFetchWord (s : State) (nbits w : Nat) : State := s.presentWord (BitVec.ofNat 16 (w % 2 ^ nbits))

end Sys2Proof.Machine
end

