-- ==== Sys2Proof/Machine/HostDriver.lean ====
section
/-!
DEFINITION. The host-side contract (00_scope.md R6): functions of the host driver. They add no state and no command to
CORE. Key normalisation (40_key_and_seed.md R140 to R143), the float and the bounded integer (42_derived_outputs.md R175 to
R181), restore's duties (43_snapshot_restore.md R212), the text form of an image (R215 to R218), the calls of the source's interface
as the commands they send, and the script language (30_encoding.md R103, R104).
-/

namespace Sys2Proof.Machine

/-- The errors of the source's taxonomy as the host raises them (60_exceptions.md R290, R293). -/
inductive HostError where
  | invalidSeed
  | invalidArgument
  | invalidRange
  | invalidState
  | invalidStateString
  deriving DecidableEq, Repr

/-- A number a caller passes: an integer, or one the host must reject (40_key_and_seed.md R143). -/
inductive HostNum where
  | int (n : Int)
  | nonInteger
  | nonFinite
  deriving DecidableEq, Repr

/-! ### Seeds -/

/-- One element of a string: a UTF-16 code unit, as in the strings of JavaScript (40_key_and_seed.md R141, 92_eei_decisions.md
D26). A unit of a surrogate pair may stand alone. -/
abbrev CodeUnit := BitVec 16

/-- A seed as the caller gives it: a string, one character code per code unit, or a sequence (40_key_and_seed.md R140, R141,
R143). -/
inductive SeedArg where
  | omitted
  | text (units : List CodeUnit)
  | sequence (elements : List HostNum)
  | wrongType
  deriving DecidableEq, Repr

/-- The codes of a character: its UTF-16 code units, two outside the Basic Multilingual Plane (40_key_and_seed.md R141). -/
def charCodes (c : Char) : List CodeUnit :=
  if c.toNat < 0x10000 then [BitVec.ofNat 16 c.toNat]
  else [BitVec.ofNat 16 (0xD800 + (c.toNat - 0x10000) / 0x400), BitVec.ofNat 16 (0xDC00 + (c.toNat - 0x10000) % 0x400)]

/-- The string of some characters. -/
def utf16 (chars : List Char) : List CodeUnit := chars.flatMap charCodes

/-- `c mod 256` for each character code, in string order (40_key_and_seed.md R141). -/
def textKey (units : List CodeUnit) : List Byte := units.map fun c => c.setWidth 8

/-- `n mod 256`, the non-negative residue (40_key_and_seed.md R142). -/
def intKeyByte (n : Int) : Byte := BitVec.ofNat 8 (n % 256).toNat

/-- The integer of a number, if it is one. -/
def HostNum.toInt? : HostNum → Option Int
  | .int n => some n
  | .nonInteger => none
  | .nonFinite => none

/-- The key of a seed that is present, or `InvalidSeed` (40_key_and_seed.md R143); `none` for an omitted seed. -/
def normaliseSeed : SeedArg → Except HostError (Option (List Byte))
  | .omitted => .ok none
  | .text [] => .error .invalidSeed
  | .text (c :: cs) => .ok (some (textKey (c :: cs)))
  | .sequence [] => .error .invalidSeed
  | .sequence (x :: xs) =>
    match (x :: xs).mapM HostNum.toInt? with
    | some ns => .ok (some (ns.map intKeyByte))
    | none => .error .invalidSeed
  | .wrongType => .error .invalidSeed

/-- `KCLR`, one `KEYB` per byte, in order (30_encoding.md R104: KEYSTR, KEYSEQ). -/
def keyCommands (key : List Byte) : List Instr := .kclr :: key.map Instr.keyb

/-- `construct(seed)`: the commands the host sends, none if it raises an error (40_key_and_seed.md R143). -/
def constructCommands (a : SeedArg) : Except HostError (List Instr) :=
  match normaliseSeed a with
  | .error e => .error e
  | .ok none => .ok [.aseed]
  | .ok (some key) => .ok (keyCommands key ++ [.seed])

/-! ### Derived outputs -/

/-- `nextFloat()`: the exact rational `e / 2^32` of one WORD (42_derived_outputs.md R176). -/
def floatOf (e : Data) : ℚ := (e.toNat : ℚ) / 2 ^ 32

/-- The range of a bounded-integer request: one integer gives `[0, max]`, two `[min, max]`; anything else is
`InvalidArgument`, then an empty range `InvalidRange` (42_derived_outputs.md R177, R178). -/
def integerRange (args : List HostNum) : Except HostError (Int × Int) :=
  match args with
  | [.int hi] => if 0 ≤ hi then .ok (0, hi) else .error .invalidRange
  | [.int lo, .int hi] => if lo ≤ hi then .ok (lo, hi) else .error .invalidRange
  | _ => .error .invalidArgument

/-- `min + floor(e * span / 2^32)` with `span = max - min + 1`, exact (42_derived_outputs.md R179). -/
def integerOf (e : Data) (lo hi : Int) : Int := lo + ((e.toNat : Int) * (hi - lo + 1)) / 2 ^ 32

/-! ### Restore -/

/-- A state value handed to `restore`; a field may be missing (43_snapshot_restore.md R212). -/
structure StateArg where
  i : Option HostNum
  j : Option HostNum
  permutation : Option (List HostNum)
  deriving DecidableEq, Repr

/-- A number the command port can carry as a symbol value: an integer, `0 .. 4095` (43_snapshot_restore.md R212). -/
def HostNum.toSymbolValue? : HostNum → Option (BitVec 12)
  | .int n => if 0 ≤ n ∧ n ≤ 4095 then some (BitVec.ofNat 12 n.toNat) else none
  | .nonInteger => none
  | .nonFinite => none

/-- `LOADIMG`: `LDBEG`, then one `LDSYM` per symbol in image order (30_encoding.md R104). -/
def loadCommands (image : List (BitVec 12)) : List Instr := .ldbeg :: image.map Instr.ldsym

/-- `restore(state)`: the commands, or `InvalidState` with nothing sent (43_snapshot_restore.md R212). A table of the wrong
length is rejected here (log entry 18). -/
def restoreCommands (b : Build) (a : StateArg) : Except HostError (List Instr) :=
  match a.i, a.j, a.permutation with
  | some i, some j, some p =>
    if p.length = b.N then
      match (i :: j :: p).mapM HostNum.toSymbolValue? with
      | some image => .ok (loadCommands image ++ [.rstr])
      | none => .error .invalidState
    else .error .invalidState
  | _, _, _ => .error .invalidState

/-- `DUMPIMG`: `SNAP`, then `SHRD 0` to `SHRD (IMG_LEN-1)` (30_encoding.md R104). -/
def dumpCommands (b : Build) : List Instr :=
  .snap :: (List.range b.IMG_LEN).map fun a => Instr.shrd (BitVec.ofNat 12 a)

/-- The source's error an error response stands for, where there is one (60_exceptions.md R291). -/
def Code.hostError : Code → Option HostError
  | .eSeed => some .invalidSeed
  | .eState => some .invalidState
  | .ok => none
  | .eUnseeded => none
  | .eIndex => none
  | .eIllegal => none

/-! ### The text form of an image -/

/-- The hexadecimal digits, lower case (43_snapshot_restore.md R215). -/
def hexDigits : List Char := ['0', '1', '2', '3', '4', '5', '6', '7', '8', '9', 'a', 'b', 'c', 'd', 'e', 'f']

/-- The digit of a value below 16. -/
def hexDigit (n : Nat) : Char := hexDigits.getD n '0'

/-- The value of a lower-case hexadecimal digit; no other character has one (43_snapshot_restore.md R217). -/
def hexValue? (c : Char) : Option Nat := hexDigits.findIdx? fun d => decide (d = c)

/-- A symbol as `W/4` digits, the most significant first (43_snapshot_restore.md R215). -/
def symbolText (b : Build) (v : Sym) : List Char :=
  match b.width with
  | .w8 => [hexDigit (v.toNat / 16), hexDigit (v.toNat % 16)]
  | .w4 => [hexDigit (v.toNat % 16)]

/-- The text form of an image: its symbols in image order (43_snapshot_restore.md R215). -/
def imageText (b : Build) (image : List Sym) : List Char := image.flatMap (symbolText b)

/-- Two digits a symbol. -/
def pairDigits : List Nat → List Nat
  | d :: e :: rest => (d * 16 + e) :: pairDigits rest
  | [_] => []
  | [] => []

/-- Digits grouped into symbol values, `W/4` a symbol. -/
def groupDigits (b : Build) (ds : List Nat) : List Nat :=
  match b.width with
  | .w8 => pairDigits ds
  | .w4 => ds

/-- `restoreCompact(s)`, parsing: exactly `TXT_LEN` characters of `[0-9a-f]`, else `InvalidStateString`
(43_snapshot_restore.md R217). -/
def parseImage (b : Build) (s : List Char) : Except HostError (List (BitVec 12)) :=
  if s.length = b.TXT_LEN then
    match s.mapM hexValue? with
    | some ds => .ok ((groupDigits b ds).map fun n => BitVec.ofNat 12 n)
    | none => .error .invalidStateString
  else .error .invalidStateString

/-- `restoreCompact(s)`: the commands; validation is RSTR's (43_snapshot_restore.md R218). -/
def restoreCompactCommands (b : Build) (s : List Char) : Except HostError (List Instr) :=
  match parseImage b s with
  | .ok image => .ok (loadCommands image ++ [.rstr])
  | .error e => .error e

/-- The image of the live state as a list of symbols in image order: what `DUMPIMG` reads out (20_memory.md R64). -/
def State.image (s : State) : List Sym := (List.range s.build.IMG_LEN).map s.imageAt

/-! ### The calls of the source's interface -/

/-- Why a call fails: an error of the source's taxonomy, or a code of CORE's own, for which the source has no name
(60_exceptions.md R290, R291; log entry 22). -/
inductive CallError where
  | host (e : HostError)
  | core (c : BitVec 4)
  deriving DecidableEq, Repr

/-- The error a response code stands for: `E_SEED` and `E_STATE` are the source's, the other codes CORE's own
(60_exceptions.md R291). -/
def CallError.ofBits (c : BitVec 4) : CallError :=
  match ([.eSeed, .eState] : List Code).find? fun d => decide (d.bits = c) with
  | some d => (d.hostError.map CallError.host).getD (.core c)
  | none => .core c

/-- Commands sent one after the other, each response taken before the next (20_memory.md R72), to the last of them whatever is
answered (log entry 22): the responses in order, and the state they leave. -/
def issue : List Instr → State → Host.Outcome (List RspWord × State) Fault Refusal
  | [], s => .next ([], s)
  | i :: is, s =>
    match exec i s with
    | .next t =>
      match issue is t.takeResponse with
      | .next (rs, u) => .next (t.RSP :: rs, u)
      | .fault f => .fault f
      | .refused r => .refused r
    | .fault f => .fault f
    | .refused r => .refused r

/-- What a call returns: the first error among its responses, or the value made from their data fields (log entry 22). -/
def callResult {α : Type} (value : List Data → α) (rs : List RspWord) : Except CallError α :=
  match rs.find? fun r => decide (rspCode r ≠ 0#4) with
  | some r => .error (CallError.ofBits (rspCode r))
  | none => .ok (value (rs.map rspData))

/-- A call: the arguments are checked first, and a call that fails there sends nothing (60_exceptions.md R293); else its commands
are sent and its result made from their responses. -/
def hostCall {α : Type} (commands : Except HostError (List Instr)) (value : List Data → α) (s : State) :
    Host.Outcome (Except CallError α × State) Fault Refusal :=
  match commands with
  | .error e => .next (.error (.host e), s)
  | .ok is =>
    match issue is s with
    | .next (rs, t) => .next (callResult value rs, t)
    | .fault f => .fault f
    | .refused r => .refused r

/-- The data of a call of one command. -/
def onlyData (ds : List Data) : Data := ds.headD 0#32

/-- The symbols of a `DUMPIMG`: the data of its SHRDs, after that of its SNAP (30_encoding.md R104). -/
def dumpedImage (ds : List Data) : List Sym := ds.tail.map fun d => d.setWidth 8

/-- `construct(seed)` (40_key_and_seed.md R140 to R143). -/
def construct (a : SeedArg) (s : State) : Host.Outcome (Except CallError Unit × State) Fault Refusal :=
  hostCall (constructCommands a) (fun _ => ()) s

/-- `nextByte()`: one NEXT (41_step.md R150). -/
def nextByte (s : State) : Host.Outcome (Except CallError Data × State) Fault Refusal := hostCall (.ok [.next]) onlyData s

/-- `nextFloat()`: one WORD, read as `e / 2^32` (42_derived_outputs.md R176). -/
def nextFloat (s : State) : Host.Outcome (Except CallError ℚ × State) Fault Refusal :=
  hostCall (.ok [.word]) (fun ds => floatOf (onlyData ds)) s

/-- `nextInteger(args)`: the checks before any command, then exactly one WORD whatever the range (42_derived_outputs.md R177 to
R179). -/
def nextInteger (args : List HostNum) (s : State) : Host.Outcome (Except CallError Int × State) Fault Refusal :=
  match integerRange args with
  | .error e => hostCall (.error e) (fun _ => 0) s
  | .ok (lo, hi) => hostCall (.ok [.word]) (fun ds => integerOf (onlyData ds) lo hi) s

/-- `snapshot()`: `DUMPIMG` (43_snapshot_restore.md R190, R195). -/
def snapshot (s : State) : Host.Outcome (Except CallError (List Sym) × State) Fault Refusal :=
  hostCall (.ok (dumpCommands s.build)) dumpedImage s

/-- `snapshotCompact()`: `DUMPIMG`, the returned symbols in the text form (43_snapshot_restore.md R216). -/
def snapshotCompact (s : State) : Host.Outcome (Except CallError (List Char) × State) Fault Refusal :=
  hostCall (.ok (dumpCommands s.build)) (fun ds => imageText s.build (dumpedImage ds)) s

/-- `restore(state)` (43_snapshot_restore.md R212). -/
def restore (a : StateArg) (s : State) : Host.Outcome (Except CallError Unit × State) Fault Refusal :=
  hostCall (restoreCommands s.build a) (fun _ => ()) s

/-- `restoreCompact(text)` (43_snapshot_restore.md R217, R218). -/
def restoreCompact (text : List Char) (s : State) : Host.Outcome (Except CallError Unit × State) Fault Refusal :=
  hostCall (restoreCompactCommands s.build text) (fun _ => ()) s

/-! ### The script language -/

/-- The pseudo-commands (30_encoding.md R104). -/
inductive Pseudo where
  | keystr (text : List CodeUnit)
  | keyseq (ns : List Int)
  | seedstr (text : List CodeUnit)
  | seedseq (ns : List Int)
  | loadimg (image : List (BitVec 12))
  | restoreimg (image : List (BitVec 12))
  | dumpimg
  | float
  | skip (n : Nat)
  deriving DecidableEq, Repr

/-- The command sequence a pseudo-command expands to (30_encoding.md R104). -/
def Pseudo.expand (b : Build) : Pseudo → List Instr
  | .keystr text => keyCommands (textKey text)
  | .keyseq ns => keyCommands (ns.map intKeyByte)
  | .seedstr text => keyCommands (textKey text) ++ [.seed]
  | .seedseq ns => keyCommands (ns.map intKeyByte) ++ [.seed]
  | .loadimg image => loadCommands image
  | .restoreimg image => loadCommands image ++ [.rstr]
  | .dumpimg => dumpCommands b
  | .float => [.word]
  | .skip n => List.replicate n .next

/-- The characters of each mnemonic, in upper case (30_encoding.md R103). -/
def mnemonicNames : List (List Char × Mnemonic) :=
  [(['N', 'O', 'P'], .NOP), (['I', 'N', 'I', 'T'], .INIT), (['K', 'C', 'L', 'R'], .KCLR), (['K', 'E', 'Y', 'B'], .KEYB),
   (['S', 'E', 'E', 'D'], .SEED), (['A', 'S', 'E', 'E', 'D'], .ASEED), (['N', 'E', 'X', 'T'], .NEXT),
   (['W', 'O', 'R', 'D'], .WORD)] ++
  [(['S', 'N', 'A', 'P'], .SNAP), (['S', 'H', 'R', 'D'], .SHRD), (['L', 'D', 'B', 'E', 'G'], .LDBEG),
   (['L', 'D', 'S', 'Y', 'M'], .LDSYM), (['R', 'S', 'T', 'R'], .RSTR), (['R', 'D', 'C', 'S', 'R'], .RDCSR),
   (['C', 'L', 'R', 'E'], .CLRE)]

/-- The text before a comment, which a `;` starts (30_encoding.md R103). -/
def beforeComment (line : List Char) : List Char := line.takeWhile fun c => decide (c ≠ ';')

/-- The words of a line. DESIGN CHOICE: they are separated by spaces and tabs, any number of them, and those before the first
word and after the last are ignored; 30_encoding.md R103 names no separator (log entry 20). -/
def lineWords (line : List Char) : List (List Char) :=
  (line.splitOnP fun c => decide (c = ' ') || decide (c = '\t')).filter fun w => !w.isEmpty

/-- A digit in a base up to 16. DESIGN CHOICE: a script may write hexadecimal digits in either case (log entry 19). -/
def scriptDigit? (base : Nat) (c : Char) : Option Nat :=
  match hexValue? c.toLower with
  | some n => if n < base then some n else none
  | none => none

/-- A non-empty digit string in a base. -/
def scriptDigits? (base : Nat) : List Char → Option Nat
  | [] => none
  | c :: cs =>
    match (c :: cs).mapM (scriptDigit? base) with
    | some ds => some (ds.foldl (fun n d => n * base + d) 0)
    | none => none

/-- An operand: decimal, or hexadecimal after `0x` (30_encoding.md R103). -/
def scriptNumber? : List Char → Option Nat
  | '0' :: 'x' :: cs => scriptDigits? 16 cs
  | cs => scriptDigits? 10 cs

/-- One line of a script: no words for a blank or comment line, one word for a command, `none` for a line the assembler
rejects (30_encoding.md R103). -/
def assembleLine (line : List Char) : Option (List CmdWord) :=
  match lineWords (beforeComment line) with
  | [] => some []
  | [m] =>
    match mnemonicNames.lookup m with
    | some mn => (assemble ⟨mn, none⟩).map fun w => [w]
    | none => none
  | [m, x] =>
    match mnemonicNames.lookup m, scriptNumber? x with
    | some mn, some n => (assemble ⟨mn, some n⟩).map fun w => [w]
    | _, _ => none
  | _ => none

end Sys2Proof.Machine
end

