-- ==== Sys2Proof/Machine/Ports.lean ====
section
/-!
DEFINITION. CORE at its pins (10_state.md R47): the outputs it drives and what a rising edge of `clk` does, over the
micro-steps of the sequencer. One micro-step an edge: the number of cycles a micro-step takes is not specified
(70_reset_and_hazards.md R340; log entry 11).
-/

namespace Sys2Proof.Machine

/-- The input pins at a rising edge of `clk` (10_state.md R47). -/
structure Pins where
  rst      : Bool
  cmdValid : Bool
  cmd      : CmdWord
  rspReady : Bool
  entValid : Bool
  entData  : Byte
  deriving DecidableEq, Repr

/-- The output pins (10_state.md R47). -/
structure Outputs where
  cmdReady : Bool
  rspValid : Bool
  rsp      : Option RspWord
  entReady : Bool
  deriving DecidableEq, Repr

/-- What CORE drives: `cmd_ready = (PH = IDLE and RV = 0)`, `rsp_valid = RV`, `ent_ready` in phase `ENT` only, and all three
0 while `rst = 1` (10_state.md R45, R47; 45_sequencer_fsm.md R262, R280; 70_reset_and_hazards.md R330). `rsp = RSP` while
`rsp_valid = 1`. DESIGN CHOICE: while `rsp_valid = 0` the spec gives `rsp` nothing to carry, and the model gives it no value
(log entry 21). -/
def State.outputs (s : State) (rst : Bool) : Outputs where
  cmdReady := !rst && decide (s.PH = .idle) && !s.RV
  rspValid := !rst && s.RV
  rsp := if !rst && s.RV then some s.RSP else none
  entReady := !rst && decide (s.PH = .ent)

/-- Reset by the pin, from any phase (45_sequencer_fsm.md R283, 70_reset_and_hazards.md R330, R332). The outside is not reset
(log entry 16). -/
def State.resetByPin (s : State) : State :=
  { State.resetOf s.build with cmdIn := s.cmdIn, entIn := s.entIn, draws := s.draws }

/-- The response port at an edge: a waiting response is taken if `rsp_ready = 1` (45_sequencer_fsm.md R280). -/
def State.responseEdge (s : State) (p : Pins) : State := if s.RV && p.rspReady then s.takeResponse else s

/-- The byte transferred on the entropy port at an edge, if any (10_state.md R47). -/
def Pins.entropy (p : Pins) : Option Byte := if p.entValid then some p.entData else none

/-- A rising edge of `clk`. Reset wins (70_reset_and_hazards.md R330); a command in flight takes its micro-step; in `IDLE` with
an empty response slot a presented word is accepted (30_encoding.md R92), and one presented while `cmd_ready = 0` has no
effect. -/
def clockEdge (p : Pins) (s : State) : Host.Outcome State Fault Refusal :=
  if p.rst then .next s.resetByPin
  else if s.PH ≠ .idle then microStep p.entropy (s.responseEdge p)
  else if s.RV then .next (s.responseEdge p)
  else if p.cmdValid then startWord p.cmd s
  else .next s

end Sys2Proof.Machine
end

