-- ==== Sys2Proof/Safety.lean ====
section
/-!
DEFINITION. The terms claims about CORE are stated in: the permutation invariant (10_state.md R24), the invariant of the
states between commands (R52, R54), what the host observes (00_scope.md R16), and runs of commands.
-/

namespace Sys2Proof.Machine

/-- Entry `a` of the live table as a number. -/
def State.tableAt (s : State) (a : Nat) : Nat := (elem s.build .S s.S a).toNat

/-- Symbol `a` of the shadow image as a number. -/
def State.shadowAt (s : State) (a : Nat) : Nat := (elem s.build .SH s.SH a).toNat

/-- Entry `a` of the key buffer. -/
def State.keyByteAt (s : State) (a : Nat) : Byte := elem s.build .K s.K a

/-- Every value `0 .. n-1` is `f a` for exactly one `a` in `0 .. n-1` (10_state.md R24). -/
def Bijective (n : Nat) (f : Nat → Nat) : Prop :=
  ∀ v, v < n → ∃ a, a < n ∧ f a = v ∧ ∀ c, c < n → f c = v → c = a

/-- A table is a bijection of `0 .. N-1` onto itself (10_state.md R24). -/
def TableBijective (b : Build) (T : Memory) : Prop := Bijective b.N fun a => (elem b .S T a).toNat

/-- A memory has the canonical form, lists only elements its space has, and each at its space's width. -/
def MemoryOk (b : Build) (sp : Space) (m : Memory) : Prop :=
  m.wf = true ∧ ∀ c ∈ m, c.1 < sp.size b ∧ narrow b sp c.2 = c.2

/-- The first `n` elements have been written (10_state.md R52). -/
def Written (m : Memory) (n : Nat) : Prop := ∀ a, a < n → (m.read a).isSome = true

/-- What holds between commands, always (10_state.md R54, with R24 and R52). -/
structure Inv (s : State) : Prop where
  build_ok : s.build.wellFormed = true
  idle : s.PH = .idle
  klen_le : s.KLEN ≤ s.build.KMAX
  cnt_le : s.CNT ≤ s.build.IMG_LEN
  ldovf_full : s.LDOVF = true → s.CNT = s.build.IMG_LEN
  ktrunc_full : s.KTRUNC = true → s.KLEN = s.build.KMAX
  no_err : s.ERR = false → s.LASTERR = 0#4
  err : s.ERR = true → 1 ≤ s.LASTERR.toNat ∧ s.LASTERR.toNat ≤ 5
  bijective : s.SEEDED = true → TableBijective s.build s.S
  i_lt : s.I.toNat < s.build.N
  j_lt : s.J.toNat < s.build.N
  s_ok : MemoryOk s.build .S s.S
  k_ok : MemoryOk s.build .K s.K
  sh_ok : MemoryOk s.build .SH s.SH
  s_written : s.SEEDED = true → Written s.S s.build.N
  k_written : Written s.K s.KLEN
  sh_written : Written s.SH s.CNT

/-- Two states between commands that differ at most in storage no rule may read: the table and the cursors while
`SEEDED = 0`, key bytes at or above `KLEN`, shadow symbols at or above `CNT`, a response word that is not waiting, and the
sequencer's temporaries (10_state.md R44, R51, R52; 00_scope.md R16). -/
structure SameVisible (s t : State) : Prop where
  build : s.build = t.build
  idle_left : s.PH = .idle
  idle_right : t.PH = .idle
  seeded : s.SEEDED = t.SEEDED
  cursors : s.SEEDED = true → s.I = t.I ∧ s.J = t.J
  table : s.SEEDED = true → ∀ a, a < s.build.N → s.tableAt a = t.tableAt a
  klen : s.KLEN = t.KLEN
  key : ∀ a, a < s.KLEN → s.keyByteAt a = t.keyByteAt a
  ktrunc : s.KTRUNC = t.KTRUNC
  cnt : s.CNT = t.CNT
  shadow : ∀ a, a < s.CNT → s.shadowAt a = t.shadowAt a
  ldbad : s.LDBAD = t.LDBAD
  ldovf : s.LDOVF = t.LDOVF
  err : s.ERR = t.ERR
  lasterr : s.LASTERR = t.LASTERR
  rv : s.RV = t.RV
  rsp : s.RV = true → s.RSP = t.RSP
  cmdIn : s.cmdIn = t.cmdIn
  entIn : s.entIn = t.entIn
  draws : s.draws = t.draws

/-- The response the host takes at a step, if any (00_scope.md R16). -/
def State.observed (s : State) : List RspWord := if s.PH = .idle ∧ s.RV = true then [s.RSP] else []

/-- The responses the host takes in `n` steps: all it observes (00_scope.md R16). -/
def responses : Nat → State → List RspWord
  | 0, _ => []
  | n + 1, s =>
    match step s with
    | .next t => s.observed ++ responses n t
    | .fault _ => s.observed
    | .refused _ => s.observed

/-- A sequence of commands carried out one after the other, each response taken before the next (20_memory.md R72). -/
def runCommands : List Instr → State → Host.Outcome State Fault Refusal
  | [], s => .next s
  | i :: is, s =>
    match exec i s with
    | .next t => runCommands is t.takeResponse
    | .fault f => .fault f
    | .refused r => .refused r

/-- The data fields that `n` NEXT commands return (41_step.md R150). -/
def nextSymbols : Nat → State → List Data
  | 0, _ => []
  | n + 1, s =>
    match exec .next s with
    | .next t => rspData t.RSP :: nextSymbols n t.takeResponse
    | .fault _ => []
    | .refused _ => []

/-- The key-schedule loop as 40_key_and_seed.md R127 writes it, over plain numbers: `n` iterations from counter `i`,
accumulator `j` and table `T`; `T i` in the sum is the entry before the iteration's swap. -/
def specMix (N : Nat) (key : List Byte) : Nat → Nat → Nat → (Nat → Nat) → Nat → Nat
  | 0, _, _, T, a => T a
  | n + 1, i, j, T, a =>
    let j' := (j + T i + (key.getD (i % key.length) 0#8).toNat) % N
    specMix N key n (i + 1) j' (fun c => if c = i then T j' else if c = j' then T i else T c) a

/-- Entry `a` of `KSA(key)` by 40_key_and_seed.md R127: from the identity, `N - 1` iterations. -/
def specKsa (N : Nat) (key : List Byte) (a : Nat) : Nat := specMix N key (N - 1) 0 0 id a

/-- The commands that may stand between a SNAP and the RSTR that rewinds to it (43_snapshot_restore.md R210). -/
def RewindSafe (i : Instr) : Prop :=
  i ≠ .init ∧ i ≠ .snap ∧ i ≠ .ldbeg ∧ i ≠ .rstr ∧ ∀ v, i ≠ .ldsym v

/-- `s` with the response of a command in the slot: what every command that ends in OK leaves besides its own effect. -/
def State.answered (s : State) (c : Code) (d : Data) : State := { s with RSP := rspWord c d, RV := true, PH := .idle }

/-- `s` after a command that ended in the error `c` with detail `d`: the record, the response, and nothing else
(60_exceptions.md R296). -/
def State.errored (s : State) (c : Code) (d : Data) : State :=
  State.answered { s with ERR := true, LASTERR := c.bits } c d

end Sys2Proof.Machine
end

