-- ==== Sys2Proof/Certificates/Slice0/Obligations.lean ====
section
/-!
DEFINITION. The statements for the provers. Each docstring names the rule of spec/ it formalises; where a clause rests on a
choice of the model, the docstring names the log entry.
-/

open Sys2Proof Sys2Proof.Machine

/-! ### Encoding and the step -/

/-- 30_encoding.md R105: its worked encodings and response words. -/
def Obligations.WorkedEncodingsDecode : Prop :=
  encode (.keyb 0x6C#8) = 0x306C#16 ∧ decode 0x306C#16 = .ok (.keyb 0x6C#8) ∧
  encode .seed = 0x4000#16 ∧ decode 0x4000#16 = .ok .seed ∧
  encode .next = 0x6000#16 ∧ decode 0x6000#16 = .ok .next ∧
  encode (.shrd 257#12) = 0x9101#16 ∧ decode 0x9101#16 = .ok (.shrd 257#12) ∧
  encode (.ldsym 255#12) = 0xB0FF#16 ∧ decode 0xB0FF#16 = .ok (.ldsym 255#12) ∧
  encode (.ldsym 256#12) = 0xB100#16 ∧ decode 0xB100#16 = .ok (.ldsym 256#12) ∧
  valueOutOfRange Build.normative 256#12 = true ∧
  encode (.rdcsr 1#12) = 0xD001#16 ∧ decode 0xD001#16 = .ok (.rdcsr 1#12) ∧
  ((Pseudo.seedstr (utf16 ['l', 'o', 'l'])).expand Build.normative).map encode =
    [0x2000#16, 0x306C#16, 0x306F#16, 0x306C#16, 0x4000#16] ∧
  rspWord .ok 65#32 = 0x000000041#36 ∧ rspWord .eState 4#32 = 0x200000004#36

/-- 30_encoding.md R97, R99: every word is exactly one command, the one that encodes to it, or illegal. -/
def Obligations.DecodeAgreesWithEncode : Prop :=
  ∀ (w : CmdWord) (i : Instr), decode w = .ok i ↔ encode i = w

/-- 30_encoding.md R98: which words are illegal: opcode 0xF, a non-zero operand of form Z, a KEYB with `operand[11:8] != 0`. -/
def Obligations.IllegalWordsAreTheReservedOnes : Prop :=
  ∀ w : CmdWord, (∃ e, decode w = .error e) ↔
    (w.toNat / 4096 = 0xF ∨
      (w.toNat / 4096 ∈ [0x0, 0x1, 0x2, 0x4, 0x5, 0x6, 0x7, 0x8, 0xA, 0xC, 0xE] ∧ w.toNat % 4096 ≠ 0) ∨
      (w.toNat / 4096 = 0x3 ∧ w.toNat % 4096 / 256 ≠ 0))

/-- 30_encoding.md R92, 20_memory.md R71: with the sequencer idle, no response waiting and a word offered that decodes to a
command, a step is that command's one transition, the word having been latched into `OPC` and taken off the port. -/
def Obligations.StepRunsDecodedCommand : Prop :=
  (∀ (s : State) (w : CmdWord) (rest : List CmdWord) (i : Instr),
    s.PH = .idle → s.RV = false → s.cmdIn = w :: rest → decode w = .ok i →
    step s = exec i { s with OPC := w, cmdIn := rest }) ∧
  (∀ (s : State) (i : Instr),
    step (s.withFetchWord 16 (encode i).toNat) = exec i { s with OPC := encode i, PH := .idle, RV := false })

/-- 30_encoding.md R98, 60_exceptions.md R300: an illegal word is accepted like any other, whatever the state, changes nothing
but the error record, and is answered `E_ILLEGAL` with data 0. -/
def Obligations.StepAnswersIllegalWord : Prop :=
  ∀ (s : State) (w : CmdWord) (rest : List CmdWord) (e : Illegal),
    s.PH = .idle → s.RV = false → s.cmdIn = w :: rest → decode w = .error e →
    step s = .next { s with
      OPC := w, cmdIn := rest, ERR := true, LASTERR := 5#4, RSP := 0x500000000#36, RV := true, PH := .idle }

/-- 10_state.md R45, 45_sequencer_fsm.md R253: a waiting response is taken before the next word is accepted, and with no word
offered `IDLE` does nothing. That the host takes it at the next step is the model's choice (log entry 3). -/
def Obligations.StepBetweenCommands : Prop :=
  (∀ s : State, s.PH = .idle → s.RV = true → step s = .next { s with RV := false }) ∧
  (∀ s : State, s.PH = .idle → s.RV = false → s.cmdIn = [] → step s = .next s)

/-! ### What each command does -/

/-- 44_system.md R231. -/
def Obligations.NopOnlyAnswers : Prop :=
  encode .nop = 0x0000#16 ∧
  ∀ s : State, exec .nop s = .next { s with RSP := rspWord .ok 0#32, RV := true, PH := .idle }

/-- 44_system.md R233: the registers INIT clears, its response, and the `E_UNSEEDED` of a following NEXT. -/
def Obligations.InitIsSoftReset : Prop :=
  encode .init = 0x1000#16 ∧
  ∀ s : State, ∃ t, exec .init s = .next t ∧
    t.SEEDED = false ∧ t.I = 0#8 ∧ t.J = 0#8 ∧ t.KLEN = 0 ∧ t.KTRUNC = false ∧ t.CNT = 0 ∧ t.LDBAD = false ∧
    t.LDOVF = false ∧ t.ERR = false ∧ t.LASTERR = 0#4 ∧ t.PH = .idle ∧ t.RV = true ∧ t.RSP = rspWord .ok 0#32 ∧
    exec .next t.takeResponse = .next (t.takeResponse.errored .eUnseeded 0#32)

/-- 10_state.md R53: after INIT the block is indistinguishable, by any further responses, from the block after reset. -/
def Obligations.InitIndistinguishableFromReset : Prop :=
  ∀ (s t : State) (n : Nat), exec .init s = .next t →
    responses n t.takeResponse = responses n t.resetByPin

/-- 40_key_and_seed.md R122. -/
def Obligations.KclrClearsKeyBuffer : Prop :=
  encode .kclr = 0x2000#16 ∧
  ∀ s : State, exec .kclr s =
    .next { s with KLEN := 0, KTRUNC := false, RSP := rspWord .ok 0#32, RV := true, PH := .idle }

/-- 40_key_and_seed.md R123, R124: KEYB appends below `KMAX`, and at `KMAX` drops the byte and sets `KTRUNC`. -/
def Obligations.KeybAppendsOrDrops : Prop :=
  (∀ b : BitVec 8, encode (.keyb b) = 0x3000#16 ||| b.setWidth 16) ∧
  (∀ (b : BitVec 8) (s : State), s.KLEN < s.build.KMAX → ∃ t, exec (.keyb b) s = .next t ∧
    t = { s with K := t.K, KLEN := s.KLEN + 1, RSP := rspWord .ok 0#32, RV := true, PH := .idle } ∧
    t.keyByteAt s.KLEN = b ∧ ∀ a, a ≠ s.KLEN → t.keyByteAt a = s.keyByteAt a) ∧
  (∀ (b : BitVec 8) (s : State), ¬ s.KLEN < s.build.KMAX →
    exec (.keyb b) s = .next { s with KTRUNC := true, RSP := rspWord .ok 0#32, RV := true, PH := .idle })

/-- 40_key_and_seed.md R125, R127: SEED over an empty key is `E_SEED` and changes nothing else; over `K[0 .. KLEN-1]` it makes
the table the key schedule of R127, written over plain numbers in `specKsa`. What `K` then holds is not stated (log entry 8).
That the sequencer's temporaries stay as they were is the model's choice (log entry 7). -/
def Obligations.SeedRunsKeySchedule : Prop :=
  encode .seed = 0x4000#16 ∧
  (∀ s : State, s.KLEN = 0 → exec .seed s = .next (s.errored .eSeed 0#32)) ∧
  (∀ s : State, s.KLEN ≠ 0 → ∃ t, exec .seed s = .next t ∧
    t = { s with
      S := t.S, K := t.K, I := 0#8, J := 0#8, SEEDED := true, KLEN := 0, KTRUNC := false,
      RSP := rspWord .ok 0#32, RV := true, PH := .idle } ∧
    ∀ a, a < s.build.N → t.tableAt a = specKsa s.build.N ((List.range s.KLEN).map s.keyByteAt) a)

/-- 40_key_and_seed.md R131 to R133, under the premise of R134 that the bytes arrive: ASEED draws `ENT_LEN` bytes, those the
source was to deliver first and any bytes whatever after them (log entry 6), discards the pending key, and runs the key
schedule over the drawn bytes. That the sequencer's temporaries stay as they were is the model's choice (log entry 7). -/
def Obligations.AseedSeedsFromDrawnBytes : Prop :=
  encode .aseed = 0x5000#16 ∧
  ∀ s : State, ∃ bytes t, exec .aseed s = .next t ∧ bytes.length = s.build.entLen ∧
    (∀ k, k < s.build.entLen → k < s.entIn.length → bytes[k]? = s.entIn[k]?) ∧
    t = { s with
      S := t.S, K := t.K, I := 0#8, J := 0#8, SEEDED := true, KLEN := 0, KTRUNC := false,
      entIn := s.entIn.drop s.build.entLen, draws := t.draws,
      RSP := rspWord .ok 0#32, RV := true, PH := .idle } ∧
    ∀ a, a < s.build.N → t.tableAt a = specKsa s.build.N bytes a

/-- 41_step.md R150, R151: NEXT answers `E_UNSEEDED` and changes nothing else while there is no live state; else it advances
`I`, adds `S[I]` to `J`, exchanges the two entries and no other, and answers `S[(S[I] + S[J]) mod N]` of the table after the
exchange. That the sequencer's temporaries stay as they were is the model's choice (log entry 7). -/
def Obligations.NextAdvancesOneStep : Prop :=
  encode .next = 0x6000#16 ∧
  (∀ s : State, s.SEEDED = false → exec .next s = .next (s.errored .eUnseeded 0#32)) ∧
  (∀ (s : State) (i j : Nat), s.SEEDED = true →
    i = (s.I.toNat + 1) % s.build.N → j = (s.J.toNat + s.tableAt i) % s.build.N →
    ∃ t, exec .next s = .next t ∧
      t = { s with S := t.S, I := t.I, J := t.J, RSP := t.RSP, RV := true, PH := .idle } ∧
      t.I.toNat = i ∧ t.J.toNat = j ∧ t.tableAt i = s.tableAt j ∧ t.tableAt j = s.tableAt i ∧
      (∀ a, a ≠ i → a ≠ j → t.tableAt a = s.tableAt a) ∧
      rspCode t.RSP = 0#4 ∧ (rspData t.RSP).toNat = t.tableAt ((t.tableAt i + t.tableAt j) % s.build.N))

/-- 42_derived_outputs.md R170, R172: WORD answers `E_UNSEEDED` and changes nothing else while there is no live state; else it
is exactly `WORD_STEPS` NEXTs, and its word composes the symbols they would have returned, the first most significant. That
the sequencer's temporaries stay as they were is the model's choice (log entry 7). -/
def Obligations.WordIsConsecutiveNexts : Prop :=
  encode .word = 0x7000#16 ∧
  (∀ s : State, s.SEEDED = false → exec .word s = .next (s.errored .eUnseeded 0#32)) ∧
  (∀ s : State, s.SEEDED = true → ∃ t u, exec .word s = .next t ∧
    runCommands (List.replicate s.build.WORD_STEPS .next) s = .next u ∧
    t = { s with S := u.S, I := u.I, J := u.J, RSP := t.RSP, RV := true, PH := .idle } ∧
    rspCode t.RSP = 0#4 ∧ (nextSymbols s.build.WORD_STEPS s).length = s.build.WORD_STEPS ∧
    (rspData t.RSP).toNat = (nextSymbols s.build.WORD_STEPS s).foldl (fun e d => e * s.build.N + d.toNat) 0)

/-- 42_derived_outputs.md R171 for `W = 8`: the word is `((a*256+b)*256+c)*256+d` of the four bytes in call order. -/
def Obligations.WordOfFourBytes : Prop :=
  ∀ s : State, s.build.width = .w8 → s.SEEDED = true → ∃ a b c d t,
    nextSymbols 4 s = [a, b, c, d] ∧ exec .word s = .next t ∧
    a.toNat < 256 ∧ b.toNat < 256 ∧ c.toNat < 256 ∧ d.toNat < 256 ∧
    (rspData t.RSP).toNat = ((a.toNat * 256 + b.toNat) * 256 + c.toNat) * 256 + d.toNat

/-- 43_snapshot_restore.md R190: SNAP answers `E_UNSEEDED` and changes nothing else while there is no live state; else the
shadow image is `I`, `J`, `S[0]`, ..., whole and valid, and nothing else changes. That the sequencer's temporaries stay as
they were (log entry 7) and that a cursor is cut to its `W` bits, `mod N`, as it is copied (log entry 15) are the model's
choices. -/
def Obligations.SnapCapturesLiveState : Prop :=
  encode .snap = 0x8000#16 ∧
  (∀ s : State, s.SEEDED = false → exec .snap s = .next (s.errored .eUnseeded 0#32)) ∧
  (∀ s : State, s.SEEDED = true → ∃ t, exec .snap s = .next t ∧
    t = { s with
      SH := t.SH, CNT := s.build.IMG_LEN, LDBAD := false, LDOVF := false,
      RSP := rspWord .ok 0#32, RV := true, PH := .idle } ∧
    t.shadowAt 0 = s.I.toNat % s.build.N ∧ t.shadowAt 1 = s.J.toNat % s.build.N ∧
    (∀ k, k < s.build.N → t.shadowAt (2 + k) = s.tableAt k) ∧
    (∀ a, s.build.IMG_LEN ≤ a → t.shadowAt a = s.shadowAt a))

/-- 43_snapshot_restore.md R195: SHRD below `CNT` answers the symbol and changes nothing; at or above `CNT`, and for every
`a >= IMG_LEN`, it answers `E_INDEX`. That it does so at `a >= IMG_LEN` whatever `CNT` is, is the model's deduction from R195's
words on errors and R66 (log entry 10): the rule's check names `CNT` only. -/
def Obligations.ShrdReadsShadow : Prop :=
  (∀ a : BitVec 12, encode (.shrd a) = 0x9000#16 ||| a.setWidth 16) ∧
  (∀ (a : BitVec 12) (s : State), s.CNT ≤ a.toNat → exec (.shrd a) s = .next (s.errored .eIndex 0#32)) ∧
  (∀ (a : BitVec 12) (s : State), s.build.IMG_LEN ≤ a.toNat → exec (.shrd a) s = .next (s.errored .eIndex 0#32)) ∧
  (∀ (a : BitVec 12) (s : State), a.toNat < s.CNT → a.toNat < s.build.IMG_LEN → ∃ t, exec (.shrd a) s = .next t ∧
    t = { s with RSP := t.RSP, RV := true, PH := .idle } ∧
    rspCode t.RSP = 0#4 ∧ (rspData t.RSP).toNat = s.shadowAt a.toNat)

/-- 43_snapshot_restore.md R198. -/
def Obligations.LdbegBeginsLoad : Prop :=
  encode .ldbeg = 0xA000#16 ∧
  ∀ s : State, exec .ldbeg s =
    .next { s with CNT := 0, LDBAD := false, LDOVF := false, RSP := rspWord .ok 0#32, RV := true, PH := .idle }

/-- 43_snapshot_restore.md R200: LDSYM stores `v mod N` and remembers a value out of range in `LDBAD`; on a full image it
stores nothing and sets `LDOVF`. -/
def Obligations.LdsymAppends : Prop :=
  (∀ v : BitVec 12, encode (.ldsym v) = 0xB000#16 ||| v.setWidth 16) ∧
  (∀ (v : BitVec 12) (s : State), s.CNT < s.build.IMG_LEN → ∃ t, exec (.ldsym v) s = .next t ∧
    t = { s with
      SH := t.SH, LDBAD := (if s.build.N ≤ v.toNat then true else s.LDBAD), CNT := s.CNT + 1,
      RSP := rspWord .ok 0#32, RV := true, PH := .idle } ∧
    t.shadowAt s.CNT = v.toNat % s.build.N ∧ ∀ a, a ≠ s.CNT → t.shadowAt a = s.shadowAt a) ∧
  (∀ (v : BitVec 12) (s : State), ¬ s.CNT < s.build.IMG_LEN →
    exec (.ldsym v) s = .next { s with LDOVF := true, RSP := rspWord .ok 0#32, RV := true, PH := .idle })

/-- 43_snapshot_restore.md R205, R206: the four rejections in their order, each changing nothing but the error record, and the
restore of a valid image: `I`, `J` and the whole table from the shadow, `SEEDED` set, nothing else. That the sequencer's
temporaries stay as they were is the model's choice (log entry 7). -/
def Obligations.RstrValidatesThenInstalls : Prop :=
  encode .rstr = 0xC000#16 ∧
  (∀ s : State, s.LDOVF = true → exec .rstr s = .next (s.errored .eState 2#32)) ∧
  (∀ s : State, s.LDOVF = false → s.CNT ≠ s.build.IMG_LEN → exec .rstr s = .next (s.errored .eState 1#32)) ∧
  (∀ s : State, s.LDOVF = false → s.CNT = s.build.IMG_LEN → s.LDBAD = true →
    exec .rstr s = .next (s.errored .eState 3#32)) ∧
  (∀ s : State, s.LDOVF = false → s.CNT = s.build.IMG_LEN → s.LDBAD = false →
    ¬ Bijective s.build.N (fun k => s.shadowAt (2 + k)) → exec .rstr s = .next (s.errored .eState 4#32)) ∧
  (∀ s : State, s.LDOVF = false → s.CNT = s.build.IMG_LEN → s.LDBAD = false →
    Bijective s.build.N (fun k => s.shadowAt (2 + k)) → ∃ t, exec .rstr s = .next t ∧
      t = { s with
        S := t.S, I := t.I, J := t.J, SEEDED := true, RSP := rspWord .ok 0#32, RV := true, PH := .idle } ∧
      t.I.toNat = s.shadowAt 0 ∧ t.J.toNat = s.shadowAt 1 ∧
      ∀ k, k < s.build.N → t.tableAt k = s.shadowAt (2 + k))

/-- 44_system.md R236 with 10_state.md R38 to R41: RDCSR answers the CSR as it was before the command and changes nothing;
`n > 3` is `E_INDEX`. -/
def Obligations.RdcsrReadsRegisters : Prop :=
  (∀ n : BitVec 12, encode (.rdcsr n) = 0xD000#16 ||| n.setWidth 16) ∧
  (∀ (n : BitVec 12) (s : State), 3 < n.toNat → exec (.rdcsr n) s = .next (s.errored .eIndex 0#32)) ∧
  (∀ s : State, exec (.rdcsr 0#12) s = .next (s.answered .ok (BitVec.ofNat 32 (0x52430100 + s.build.W)))) ∧
  (∀ s : State, ∃ v : Data, exec (.rdcsr 1#12) s = .next (s.answered .ok v) ∧
    v.extractLsb' 0 4 = s.LASTERR ∧ v.getLsbD 4 = s.ERR ∧ v.getLsbD 5 = s.SEEDED ∧ v.getLsbD 6 = s.KTRUNC ∧
    v.getLsbD 7 = s.LDBAD ∧ v.getLsbD 8 = s.LDOVF ∧ (v.getLsbD 9 = true ↔ s.build.width = .w4) ∧
    v.extractLsb' 10 22 = 0#22) ∧
  (∀ s : State, s.KLEN ≤ s.build.KMAX → exec (.rdcsr 2#12) s = .next (s.answered .ok (BitVec.ofNat 32 s.KLEN))) ∧
  (∀ s : State, s.CNT ≤ s.build.IMG_LEN → exec (.rdcsr 3#12) s = .next (s.answered .ok (BitVec.ofNat 32 s.CNT))) ∧
  (∀ s : State, ∃ k c : Nat, k < 2 ^ (s.build.W + 1) ∧ c < 2 ^ (s.build.W + 2) ∧
    exec (.rdcsr 2#12) s = .next (s.answered .ok (BitVec.ofNat 32 k)) ∧
    exec (.rdcsr 3#12) s = .next (s.answered .ok (BitVec.ofNat 32 c)))

/-- 44_system.md R239. -/
def Obligations.ClreClearsErrorRecord : Prop :=
  encode .clre = 0xE000#16 ∧
  ∀ s : State, exec .clre s =
    .next { s with ERR := false, LASTERR := 0#4, RSP := rspWord .ok 0#32, RV := true, PH := .idle }

/-! ### Errors -/

/-- 60_exceptions.md R296: a command that ends in an error sets `ERR` and `LASTERR`, answers, and changes nothing else. -/
def Obligations.ErrorChangesOnlyRecord : Prop :=
  ∀ (i : Instr) (s t : State), exec i s = .next t → rspCode t.RSP ≠ 0#4 →
    t = { s with ERR := true, LASTERR := rspCode t.RSP, RSP := t.RSP, RV := true, PH := .idle }

/-- 60_exceptions.md R291, 30_encoding.md R95, with the conditions of the command rules (R125, R150, R170, R190, R195, R205,
R236): a command that raises a code is one that may, its cause holds, and the data are the code's. That SHRD has its cause at
`a >= IMG_LEN` whatever `CNT` is deduced (log entry 10). -/
def Obligations.ResponseCodesOfCommands : Prop :=
  ∀ (i : Instr) (s t : State), exec i s = .next t → t.RV = true ∧
    (rspCode t.RSP = 0#4 ∨
      (rspCode t.RSP = 1#4 ∧ i = .seed ∧ s.KLEN = 0 ∧ rspData t.RSP = 0#32) ∨
      (rspCode t.RSP = 2#4 ∧ i = .rstr ∧
        ((rspData t.RSP = 2#32 ∧ s.LDOVF = true) ∨
          (rspData t.RSP = 1#32 ∧ s.LDOVF = false ∧ s.CNT ≠ s.build.IMG_LEN) ∨
          (rspData t.RSP = 3#32 ∧ s.LDOVF = false ∧ s.CNT = s.build.IMG_LEN ∧ s.LDBAD = true) ∨
          (rspData t.RSP = 4#32 ∧ s.LDOVF = false ∧ s.CNT = s.build.IMG_LEN ∧ s.LDBAD = false ∧
            ¬ Bijective s.build.N fun k => s.shadowAt (2 + k)))) ∨
      (rspCode t.RSP = 3#4 ∧ (i = .next ∨ i = .word ∨ i = .snap) ∧ s.SEEDED = false ∧ rspData t.RSP = 0#32) ∨
      (rspCode t.RSP = 4#4 ∧ rspData t.RSP = 0#32 ∧
        ((∃ a, i = .shrd a ∧ (s.CNT ≤ a.toNat ∨ s.build.IMG_LEN ≤ a.toNat)) ∨ ∃ n, i = .rdcsr n ∧ 3 < n.toNat)))

/-- 60_exceptions.md R297: the same command on the state its error left gives the same error again, and changes nothing. -/
def Obligations.SameErrorAgain : Prop :=
  ∀ (i : Instr) (s t : State), exec i s = .next t → rspCode t.RSP ≠ 0#4 → exec i t = .next t

/-- 60_exceptions.md R298, 10_state.md R36: the error record gates nothing. Whatever it holds, every command but the read of
`STATUS` answers the same and has the same effect, the record aside. -/
def Obligations.ErrorRecordGatesNothing : Prop :=
  ∀ (i : Instr) (s t : State) (e : Bool) (l : BitVec 4), i ≠ .rdcsr 1#12 → exec i s = .next t →
    ∃ u, exec i { s with ERR := e, LASTERR := l } = .next u ∧ u = { t with ERR := u.ERR, LASTERR := u.LASTERR }

/-! ### What commands leave unchanged -/

/-- 10_state.md section 1, the columns 'written by': no other command changes the register. That INIT also empties the arrays
and that seeding drops the key bytes are the model's choices (log entries 8 and 9). -/
def Obligations.OnlyListedCommandsWriteEachRegister : Prop :=
  ∀ (i : Instr) (s t : State), exec i s = .next t →
    (t.S ≠ s.S → i ∈ [.seed, .aseed, .next, .word, .rstr, .init]) ∧
    (t.I ≠ s.I → i ∈ [.seed, .aseed, .next, .word, .rstr, .init]) ∧
    (t.J ≠ s.J → i ∈ [.seed, .aseed, .next, .word, .rstr, .init]) ∧
    (t.SEEDED ≠ s.SEEDED → i ∈ [.seed, .aseed, .rstr, .init]) ∧
    (t.K ≠ s.K → i ∈ [.seed, .aseed, .init] ∨ ∃ b, i = .keyb b) ∧
    (t.KLEN ≠ s.KLEN → i ∈ [.kclr, .seed, .aseed, .init] ∨ ∃ b, i = .keyb b) ∧
    (t.KTRUNC ≠ s.KTRUNC → i ∈ [.kclr, .seed, .aseed, .init] ∨ ∃ b, i = .keyb b) ∧
    (t.SH ≠ s.SH → i ∈ [.snap, .init] ∨ ∃ v, i = .ldsym v) ∧
    (t.CNT ≠ s.CNT → i ∈ [.snap, .ldbeg, .init] ∨ ∃ v, i = .ldsym v) ∧
    (t.LDBAD ≠ s.LDBAD → i ∈ [.snap, .ldbeg, .init] ∨ ∃ v, i = .ldsym v) ∧
    (t.LDOVF ≠ s.LDOVF → i ∈ [.snap, .ldbeg, .init] ∨ ∃ v, i = .ldsym v) ∧
    (t.ERR ≠ s.ERR → rspCode t.RSP ≠ 0#4 ∨ i ∈ [.clre, .init]) ∧
    (t.LASTERR ≠ s.LASTERR → rspCode t.RSP ≠ 0#4 ∨ i ∈ [.clre, .init])

/-- 10_state.md R35: the key and stream commands never change the shadow bank; the shadow commands and a failed RSTR never
change the live state. -/
def Obligations.ShadowAndLiveAreIndependent : Prop :=
  (∀ (i : Instr) (s t : State), exec i s = .next t →
    i ∈ [.kclr, .seed, .aseed, .next, .word] ∨ (∃ b, i = .keyb b) →
    t.SH = s.SH ∧ t.CNT = s.CNT ∧ t.LDBAD = s.LDBAD ∧ t.LDOVF = s.LDOVF) ∧
  (∀ (i : Instr) (s t : State), exec i s = .next t →
    i = .ldbeg ∨ (∃ v, i = .ldsym v) ∨ (∃ a, i = .shrd a) ∨ (i = .rstr ∧ rspCode t.RSP ≠ 0#4) →
    t.S = s.S ∧ t.I = s.I ∧ t.J = s.J ∧ t.SEEDED = s.SEEDED)

/-- No command changes the build, the command latch, what the host will present or, but for ASEED, the entropy port. That a
command-level transition leaves the sequencer's temporaries alone is the model's choice (log entry 7). -/
def Obligations.CommandsKeepBuildAndTemporaries : Prop :=
  ∀ (i : Instr) (s t : State), exec i s = .next t →
    t.build = s.build ∧ t.OPC = s.OPC ∧ t.C = s.C ∧ t.JA = s.JA ∧ t.TA = s.TA ∧ t.TB = s.TB ∧ t.OUT = s.OUT ∧
    t.WACC = s.WACC ∧ t.WK = s.WK ∧ t.SEEN = s.SEEN ∧ t.ECNT = s.ECNT ∧ t.cmdIn = s.cmdIn ∧
    (i ≠ .aseed → t.entIn = s.entIn ∧ t.draws = s.draws)

/-- 00_scope.md R8: the build parameters never change at run time, at the command level, in a micro-step or at the pins. -/
def Obligations.BuildNeverChanges : Prop :=
  (∀ s t : State, step s = .next t → t.build = s.build) ∧
  (∀ (p : Pins) (s t : State), clockEdge p s = .next t → t.build = s.build)

/-! ### Reset and the invariant -/

/-- 10_state.md R50: the values reset leaves, for either width; `ID` and `STATUS.W4` are as built. -/
def Obligations.ResetLeavesStatedValues : Prop :=
  ∀ b : Build, ∃ s, s = State.resetOf b ∧ s.build = b ∧
    s.SEEDED = false ∧ s.I = 0#8 ∧ s.J = 0#8 ∧ s.KLEN = 0 ∧ s.KTRUNC = false ∧ s.CNT = 0 ∧ s.LDBAD = false ∧
    s.LDOVF = false ∧ s.ERR = false ∧ s.LASTERR = 0#4 ∧ s.PH = .idle ∧ s.RV = false ∧
    s.csr 0#12 = BitVec.ofNat 32 (0x52430100 + b.W) ∧
    s.csr 1#12 = (if b.width = .w4 then 0x200#32 else 0#32)

/-- 10_state.md R54: its invariant holds after reset, for every build the spec allows, so of `State.reset`. That `State.reset` is
the instance `W = 8` with `ENT_LEN = 16` is the model's choice (log entry 1). -/
def Obligations.InvariantHoldsAtReset : Prop :=
  (∀ b : Build, b.wellFormed = true → Inv (State.resetOf b)) ∧ State.reset = State.resetOf ⟨.w8, 16⟩ ∧ Inv State.reset

/-- 10_state.md R54, R24, R52: every step from a state of the invariant gives a state of the invariant: the counters stay in
range, the flags imply what they imply, the table of a seeded block is a bijection, and everything a rule may read has been
written. -/
def Obligations.StepKeepsInvariant : Prop :=
  ∀ s t : State, Inv s → step s = .next t → Inv t

/-- 60_exceptions.md R298: no command, legal or illegal, stops the machine. Between commands a step always answers a next
state, again between commands. That ASEED answers rests on the premise that the entropy bytes arrive (40_key_and_seed.md R134;
log entry 6, unsafe of a block whose entropy source is dead). -/
def Obligations.StepNeverStopsBetweenCommands : Prop :=
  ∀ s : State, s.PH = .idle → ∃ t, step s = .next t ∧ t.PH = .idle

/-! ### The key schedule and the step -/

/-- 40_key_and_seed.md R128: `KSA(key)` is a permutation of `0 .. N-1` for every non-empty key. -/
def Obligations.KeyScheduleIsPermutation : Prop :=
  ∀ (b : Build) (key : List Byte), key ≠ [] → TableBijective b (ksa b key)

/-- 41_step.md R153: a step preserves the permutation invariant, and at most the entries at the new cursors change. -/
def Obligations.StepKeepsBijection : Prop :=
  (∀ (b : Build) (l : Live), TableBijective b l.S → TableBijective b (stepLive b l).S) ∧
  (∀ (b : Build) (l : Live) (a : Nat), a ≠ (stepLive b l).I.toNat → a ≠ (stepLive b l).J.toNat →
    elem b .S (stepLive b l).S a = elem b .S l.S a)

/-- 40_key_and_seed.md R130: keys of length at least `N-1` that agree on their first `N-1` bytes give one table; so the first
`KMAX` bytes of a longer key give the table of the whole key. -/
def Obligations.LongKeysAgree : Prop :=
  (∀ (b : Build) (k1 k2 : List Byte), b.N - 1 ≤ k1.length → b.N - 1 ≤ k2.length →
    k1.take (b.N - 1) = k2.take (b.N - 1) → ksa b k1 = ksa b k2) ∧
  (∀ (b : Build) (key : List Byte), b.KMAX < key.length → ksa b (key.take b.KMAX) = ksa b key)

/-- 46_common_laws.md R286 (a): at `W = 4` only the low four bits of each key byte affect the table. -/
def Obligations.ReducedWidthUsesLowNibbles : Prop :=
  ∀ (b : Build) (k1 k2 : List Byte), b.width = .w4 → k1.map (fun v => v.toNat % 16) = k2.map (fun v => v.toNat % 16) →
    ksa b k1 = ksa b k2

/-- 41_step.md R152: the step with its reads named. -/
def Obligations.StepOutputForms : Prop :=
  ∀ (b : Build) (l : Live) (i j t : Nat) (a c : Sym),
    i = (l.I.toNat + 1) % b.N → a = elem b .S l.S i → j = (l.J.toNat + a.toNat) % b.N → c = elem b .S l.S j →
    t = (a.toNat + c.toNat) % b.N →
    elem b .S (stepLive b l).S i = c ∧ elem b .S (stepLive b l).S j = a ∧
    stepOut b l = (if t = i then c else if t = j then a else elem b .S l.S t) ∧
    (i = j → a = c ∧ t = 2 * a.toNat % b.N ∧ ∀ k, elem b .S (stepLive b l).S k = elem b .S l.S k)

/-- 41_step.md R157: the state before a step is determined by the state after it. -/
def Obligations.StepIsInvertible : Prop :=
  ∀ (b : Build) (l m : Live), l.I.toNat < b.N → l.J.toNat < b.N → m = stepLive b l →
    l.I.toNat = (m.I.toNat + b.N - 1) % b.N ∧
    l.J.toNat = (m.J.toNat + b.N - (elem b .S m.S m.J.toNat).toNat) % b.N ∧
    elem b .S l.S m.I.toNat = elem b .S m.S m.J.toNat ∧ elem b .S l.S m.J.toNat = elem b .S m.S m.I.toNat ∧
    ∀ a, a ≠ m.I.toNat → a ≠ m.J.toNat → elem b .S l.S a = elem b .S m.S a

/-! ### Runs of commands -/

/-- 70_reset_and_hazards.md R335 (a) with 40_key_and_seed.md R124, R127, R130: KCLR, one KEYB per byte of a non-empty key of any
length, SEED: the live state is the key schedule of the whole key, the cursors 0. -/
def Obligations.KeyLoadedThenSeeded : Prop :=
  ∀ (s : State) (key : List Byte), key ≠ [] → ∃ t, runCommands (keyCommands key ++ [.seed]) s = .next t ∧
    t.SEEDED = true ∧ t.I = 0#8 ∧ t.J = 0#8 ∧ rspCode t.RSP = 0#4 ∧
    ∀ a, a < s.build.N → t.tableAt a = specKsa s.build.N key a

/-- 43_snapshot_restore.md R210, 41_step.md R156: a SNAP, any run of the commands R210 allows, and RSTR return the live state to
what it was at the SNAP, and the same symbols follow. That an ASEED in between completes rests on the premise that the entropy
bytes arrive (R134; log entry 6). -/
def Obligations.RewindReturnsToSnapshot : Prop :=
  ∀ (s : State) (between : List Instr) (n : Nat), Inv s → s.SEEDED = true → (∀ i ∈ between, RewindSafe i) →
    ∃ t, runCommands (.snap :: between ++ [.rstr]) s = .next t ∧ rspCode t.RSP = 0#4 ∧
      t.SEEDED = true ∧ t.I = s.I ∧ t.J = s.J ∧ (∀ a, a < s.build.N → t.tableAt a = s.tableAt a) ∧
      nextSymbols n t = nextSymbols n s

/-- 70_reset_and_hazards.md R335 (c), 43_snapshot_restore.md R200, R205: loading a valid image into any block, seeded or not,
and restoring it makes the live state exactly that image. -/
def Obligations.LoadedImageBecomesLiveState : Prop :=
  ∀ (s : State) (image : List (BitVec 12)), image.length = s.build.IMG_LEN → (∀ v ∈ image, v.toNat < s.build.N) →
    (image.drop 2).Nodup → ∃ t, runCommands (loadCommands image ++ [.rstr]) s = .next t ∧ rspCode t.RSP = 0#4 ∧
      t.SEEDED = true ∧
      image.map BitVec.toNat = t.I.toNat :: t.J.toNat :: (List.range s.build.N).map t.tableAt

/-- 20_memory.md R75: the image of a running generator loaded into a second block of the same width makes the second return the
same keystream, however the two differ otherwise. -/
def Obligations.ForkedGeneratorGivesSameStream : Prop :=
  ∀ (s u : State) (n : Nat), Inv s → s.SEEDED = true → u.build.width = s.build.width →
    ∃ t, runCommands (loadCommands (s.image.map fun v => v.setWidth 12) ++ [.rstr]) u = .next t ∧
      rspCode t.RSP = 0#4 ∧ nextSymbols n t = nextSymbols n s

/-- 43_snapshot_restore.md R208: a failed RSTR changes nothing but the error record, and the symbols that follow are those that
would have followed had it not been issued. -/
def Obligations.FailedRestoreIsInvisible : Prop :=
  ∀ (s t : State) (n : Nat), exec .rstr s = .next t → rspCode t.RSP ≠ 0#4 →
    t = s.errored .eState (rspData t.RSP) ∧
    t.S = s.S ∧ t.I = s.I ∧ t.J = s.J ∧ t.SEEDED = s.SEEDED ∧
    nextSymbols n t.takeResponse = nextSymbols n s

/-- 10_state.md R52, 00_scope.md R16: storage that holds no valid value never reaches a response. Two states that differ only in
such storage draw the same responses for ever. -/
def Obligations.UnspecifiedStorageIsUnobservable : Prop :=
  ∀ (s t : State) (n : Nat), SameVisible s t → responses n s = responses n t

/-! ### The sequencer and the pins -/

/-- 45_sequencer_fsm.md R282, 70_reset_and_hazards.md R337: from every state between commands, the micro-steps from the acceptance
of a command to its Finish, the entropy source delivering (log entry 6), end in the state and the response of the command's
one transition, within the counts of R337; until then the phase is not `IDLE` and no response waits, so `cmd_ready` and
`rsp_valid` are 0. An illegal word finishes at its decode with `E_ILLEGAL`, as it does in `step` (R253). An edge with a command
in flight is one micro-step (log entry 11), with the byte on the entropy pins if one is valid; so it is the micro-step of
`advance` in every phase but `ENT`, and in `ENT` when the pins carry the byte the source was to deliver next. -/
def Obligations.SequencerRefinesCommands : Prop :=
  (∀ (s : State) (w : CmdWord) (i : Instr), Inv s → s.RV = false → decode w = .ok i →
    ∃ n s0 t u, n ≤ microBound s.build i ∧ startWord w s = .next s0 ∧ advanceMany n s0 = .next t ∧
      exec i { s with OPC := w } = .next u ∧ t.forgetTemporaries = u.forgetTemporaries ∧
      ∀ m v, m < n → advanceMany m s0 = .next v →
        (v.outputs false).cmdReady = false ∧ (v.outputs false).rspValid = false ∧ v.PH ≠ .idle) ∧
  (∀ (s : State) (w : CmdWord) (e : Illegal), decode w = .error e →
    startWord w s = .next (State.errored { s with OPC := w } .eIllegal 0#32)) ∧
  (∀ (p : Pins) (s : State), p.rst = false → s.PH ≠ .idle → s.RV = false →
    clockEdge p s = microStep (if p.entValid = true then some p.entData else none) s) ∧
  (∀ (p : Pins) (s : State), p.rst = false → s.PH ≠ .idle → s.PH ≠ .ent → s.RV = false → clockEdge p s = advance s) ∧
  (∀ (p : Pins) (s : State) (rest : List Byte), p.rst = false → s.PH = .ent → s.RV = false → p.entValid = true →
    s.entIn = p.entData :: rest → clockEdge p { s with entIn := rest } = advance s)

/-- 70_reset_and_hazards.md R330, 45_sequencer_fsm.md R283: `rst` at an edge gives the reset values from any phase, the command
in flight and a waiting response are lost, and no port is ready or valid while `rst = 1`. -/
def Obligations.ResetPinWinsFromAnyPhase : Prop :=
  ∀ (p : Pins) (s : State), p.rst = true → ∃ t, clockEdge p s = .next t ∧ t.build = s.build ∧
    t.SEEDED = false ∧ t.I = 0#8 ∧ t.J = 0#8 ∧ t.KLEN = 0 ∧ t.KTRUNC = false ∧ t.CNT = 0 ∧ t.LDBAD = false ∧
    t.LDOVF = false ∧ t.ERR = false ∧ t.LASTERR = 0#4 ∧ t.PH = .idle ∧ t.RV = false ∧
    (s.outputs p.rst).cmdReady = false ∧ (s.outputs p.rst).rspValid = false ∧ (s.outputs p.rst).entReady = false

/-- 30_encoding.md R92, 45_sequencer_fsm.md R253: a word is accepted at an edge with `cmd_valid = 1` and `cmd_ready = 1` and at no
other. One presented while `cmd_ready = 0` has no effect, and with `cmd_ready = 1` and none presented nothing changes. That
accepting a word and its decode are one edge is the model's choice (log entry 11). -/
def Obligations.WordNotAcceptedWhileBusy : Prop :=
  (∀ (s : State) (rst : Bool), (s.outputs rst).cmdReady = true ↔ rst = false ∧ s.PH = .idle ∧ s.RV = false) ∧
  (∀ (p : Pins) (s : State) (valid : Bool) (w : CmdWord), (s.outputs p.rst).cmdReady = false →
    clockEdge { p with cmdValid := valid, cmd := w } s = clockEdge p s) ∧
  (∀ (p : Pins) (s : State), (s.outputs p.rst).cmdReady = true → p.cmdValid = true →
    clockEdge p s = startWord p.cmd s) ∧
  (∀ (p : Pins) (s : State), (s.outputs p.rst).cmdReady = true → p.cmdValid = false → clockEdge p s = .next s)

/-- 45_sequencer_fsm.md R280, 30_encoding.md R93: a response is held, valid and unchanged, until an edge with `rsp_ready = 1`. -/
def Obligations.ResponseHeldUntilTaken : Prop :=
  (∀ (p : Pins) (s : State), p.rst = false → s.PH = .idle → s.RV = true → p.rspReady = false →
    clockEdge p s = .next s ∧ (s.outputs false).rspValid = true ∧ (s.outputs false).rsp = some s.RSP) ∧
  (∀ (p : Pins) (s : State), p.rst = false → s.PH = .idle → s.RV = true → p.rspReady = true →
    clockEdge p s = .next { s with RV := false })

/-- 40_key_and_seed.md R134, 45_sequencer_fsm.md R262: an ASEED in phase `ENT` waits while no byte is presented; `ent_ready = 1`
in no other phase. -/
def Obligations.StarvedAseedWaits : Prop :=
  (∀ (p : Pins) (s : State), p.rst = false → p.entValid = false → s.PH = .ent → s.inFlight = some .aseed →
    s.RV = false → clockEdge p s = .next s ∧ (s.outputs false).cmdReady = false ∧ (s.outputs false).entReady = true) ∧
  (∀ s : State, (s.outputs false).entReady = true ↔ s.PH = .ent)

/-! ### The host side -/

/-- 43_snapshot_restore.md R215, R217, R219: the text form of an image parses to the image, and every string that parses is the
text form of what it parses to. -/
def Obligations.ImageTextRoundTrips : Prop :=
  (∀ (b : Build) (image : List Sym), image.length = b.IMG_LEN → (∀ v ∈ image, v.toNat < b.N) →
    (imageText b image).length = b.TXT_LEN ∧
    parseImage b (imageText b image) = .ok (image.map fun v => v.setWidth 12)) ∧
  (∀ (b : Build) (text : List Char) (image : List (BitVec 12)), parseImage b text = .ok image →
    image.length = b.IMG_LEN ∧ imageText b (image.map fun v => v.setWidth 8) = text)

/-- 42_derived_outputs.md R180: the bounded integer lies in its range; with one value in the range it is that value. -/
def Obligations.BoundedIntegerInRange : Prop :=
  ∀ (e : Data) (lo hi : Int), lo ≤ hi →
    lo ≤ integerOf e lo hi ∧ integerOf e lo hi ≤ hi ∧ (lo = hi → integerOf e lo hi = lo)

/-- 42_derived_outputs.md R176: the float is the exact rational `e / 2^32`, in `[0, 1)`. -/
def Obligations.FloatIsInUnitInterval : Prop :=
  ∀ e : Data, floatOf e * 2 ^ 32 = (e.toNat : ℚ) ∧ 0 ≤ floatOf e ∧ floatOf e < 1

/-- 40_key_and_seed.md R141 to R143: an omitted seed autoseeds; an empty, ill-typed or non-integer seed is `InvalidSeed` and sends
nothing; a non-empty string sends KCLR, one KEYB of each code unit mod 256, SEED, where a character of the Basic Multilingual
Plane is one code unit and any other its surrogate pair; a non-empty integer sequence sends KCLR, one KEYB of each residue mod
256, SEED. That the driver rejects an empty key itself is the model's choice (log entry 18). -/
def Obligations.SeedArgumentChecks : Prop :=
  constructCommands .omitted = .ok [.aseed] ∧
  constructCommands (.text []) = .error .invalidSeed ∧
  constructCommands (.sequence []) = .error .invalidSeed ∧
  constructCommands .wrongType = .error .invalidSeed ∧
  (∀ xs : List HostNum, (∃ x ∈ xs, x.toInt? = none) → constructCommands (.sequence xs) = .error .invalidSeed) ∧
  (∀ units : List CodeUnit, units ≠ [] → ∃ key : List Byte,
    key.map BitVec.toNat = units.map (fun c => c.toNat % 256) ∧
    constructCommands (.text units) = .ok (.kclr :: key.map Instr.keyb ++ [.seed])) ∧
  (∀ cs : List Char, utf16 cs = (cs.map charCodes).flatten) ∧
  (∀ c : Char, c.toNat < 0x10000 → (charCodes c).map BitVec.toNat = [c.toNat]) ∧
  (∀ c : Char, 0x10000 ≤ c.toNat → ∃ hi lo, (charCodes c).map BitVec.toNat = [hi, lo] ∧
    0xD800 ≤ hi ∧ hi < 0xDC00 ∧ 0xDC00 ≤ lo ∧ lo < 0xE000 ∧ c.toNat = 0x10000 + (hi - 0xD800) * 0x400 + (lo - 0xDC00)) ∧
  (∀ ns : List Int, ns ≠ [] → ∃ key : List Byte, key.map (fun v => (v.toNat : Int)) = ns.map (fun n => n % 256) ∧
    constructCommands (.sequence (ns.map HostNum.int)) = .ok (.kclr :: key.map Instr.keyb ++ [.seed]))

/-! ### The step lemma of non-interference, and the host's calls -/

/-- 10_state.md R52, 00_scope.md R16: a step takes two states that differ at most in storage that holds no valid value to two
such states, and the host takes the same response from both. -/
def Obligations.StepKeepsSameVisible : Prop :=
  ∀ s t s' : State, SameVisible s t → step s = .next s' →
    ∃ t', step t = .next t' ∧ SameVisible s' t' ∧ s.observed = t.observed

/-- 42_derived_outputs.md R177 to R179: a call with other than one or two integers is `InvalidArgument`, one with an empty range
`InvalidRange`, and CORE's state is as before; any other call on a seeded block issues exactly one WORD, whatever the range,
returns `min + (e * span) div 2^32` of its word `e`, and leaves CORE as that WORD does. On an unseeded block the WORD's
`E_UNSEEDED` is the call's error, under CORE's own code (log entry 22). -/
def Obligations.IntegerCallDrawsOneWord : Prop :=
  (∀ (args : List HostNum) (s : State), (∀ hi, args ≠ [.int hi]) → (∀ lo hi, args ≠ [.int lo, .int hi]) →
    nextInteger args s = .next (.error (.host .invalidArgument), s)) ∧
  (∀ (lo hi : Int) (s : State), hi < lo →
    nextInteger [.int lo, .int hi] s = .next (.error (.host .invalidRange), s)) ∧
  (∀ (hi : Int) (s : State), nextInteger [.int hi] s = nextInteger [.int 0, .int hi] s) ∧
  (∀ (lo hi : Int) (s : State), lo ≤ hi → s.SEEDED = true → ∃ t, exec .word s = .next t ∧
    nextInteger [.int lo, .int hi] s =
      .next (.ok (lo + ((rspData t.RSP).toNat : Int) * (hi - lo + 1) / 2 ^ 32), t.takeResponse)) ∧
  (∀ (lo hi : Int) (s : State), lo ≤ hi → s.SEEDED = false → ∃ t, exec .word s = .next t ∧
    nextInteger [.int lo, .int hi] s = .next (.error (.core 3#4), t.takeResponse))

/-- 43_snapshot_restore.md R216, R219: `snapshotCompact` returns the text of the live state's image and leaves the live state as
it was; `restoreCompact` of that text leaves it as it was too; `snapshotCompact` after a text that `restoreCompact` accepted
returns that text. On an unseeded block `snapshotCompact` fails with SNAP's `E_UNSEEDED`
(log entry 22). -/
def Obligations.CompactCallsRoundTrip : Prop :=
  (∀ s : State, Inv s → s.SEEDED = true → ∃ t u,
    snapshotCompact s = .next (.ok (imageText s.build s.image), t) ∧
    restoreCompact (imageText s.build s.image) t = .next (.ok (), u) ∧
    (t.SEEDED = true ∧ t.I = s.I ∧ t.J = s.J ∧ ∀ a, a < s.build.N → t.tableAt a = s.tableAt a) ∧
    (u.SEEDED = true ∧ u.I = s.I ∧ u.J = s.J ∧ ∀ a, a < s.build.N → u.tableAt a = s.tableAt a)) ∧
  (∀ (s t : State) (text : List Char), restoreCompact text s = .next (.ok (), t) →
    ∃ u, snapshotCompact t = .next (.ok text, u)) ∧
  (∀ s : State, s.SEEDED = false → ∃ t, snapshotCompact s = .next (.error (.core 3#4), t))

/-- 60_exceptions.md R293: a call that fails the host's own checks sends no command, so CORE's state is untouched. -/
def Obligations.RejectedCallsSendNothing : Prop :=
  (∀ (a : SeedArg) (e : HostError) (s : State), constructCommands a = .error e →
    construct a s = .next (.error (.host e), s)) ∧
  (∀ (args : List HostNum) (e : HostError) (s : State), integerRange args = .error e →
    nextInteger args s = .next (.error (.host e), s)) ∧
  (∀ (a : StateArg) (e : HostError) (s : State), restoreCommands s.build a = .error e →
    restore a s = .next (.error (.host e), s)) ∧
  (∀ (text : List Char) (e : HostError) (s : State), parseImage s.build text = .error e →
    restoreCompact text s = .next (.error (.host e), s))
end

