-- ==== Sys2Proof/Laws/Memory.lean ====
section
/-!
SUPPORT. Laws of the storage arrays: reading after writing, the canonical form and that every operation keeps it, equal
readings of canonical memories are equal data; and of element access, exchange and fill.
-/

namespace Sys2Proof.Machine

/-! ### Builds and symbols -/

theorem Build.N_pos (b : Build) : 0 < b.N := by
  unfold Build.N; cases b.width <;> decide

theorem Build.N_le (b : Build) : b.N ≤ 256 := by
  unfold Build.N; cases b.width <;> decide

theorem Build.N_eq_two_pow (b : Build) : b.N = 2 ^ b.W := by
  unfold Build.N Build.W; cases b.width <;> decide

theorem Build.two_le_N (b : Build) : 2 ≤ b.N := by
  unfold Build.N; cases b.width <;> decide

theorem low_toNat (b : Build) (n : Nat) : (low b n).toNat = n % b.N := by
  have := Nat.mod_lt n (Build.N_pos b)
  have := Build.N_le b
  simp only [low, BitVec.toNat_ofNat]
  omega

theorem low_lt (b : Build) (n : Nat) : (low b n).toNat < b.N := by
  rw [low_toNat]; exact Nat.mod_lt n (Build.N_pos b)

theorem low_of_lt (b : Build) (v : Sym) (h : v.toNat < b.N) : low b v.toNat = v := by
  apply BitVec.eq_of_toNat_eq
  rw [low_toNat, Nat.mod_eq_of_lt h]

@[simp] theorem low_low (b : Build) (n : Nat) : low b (low b n).toNat = low b n := low_of_lt b _ (low_lt b n)

@[simp] theorem narrow_narrow (b : Build) (sp : Space) (v : Byte) : narrow b sp (narrow b sp v) = narrow b sp v := by
  cases sp <;> simp [narrow]

/-! ### Reading and writing -/

@[simp] theorem Memory.read_nil (a : Nat) : Memory.read [] a = none := rfl

/-- A read after a write: the written value at that index, the old one elsewhere. -/
theorem Memory.read_write (m : Memory) (a c : Nat) (v : Byte) :
    (Memory.write m a v).read c = if c = a then some v else m.read c := by
  induction m with
  | nil => simp [Memory.write, Memory.read]
  | cons x m ih =>
    obtain ⟨k, w⟩ := x
    unfold Memory.write
    split
    · simp only [Memory.read]
    · split
      · next h => subst h; simp only [Memory.read]; split <;> rfl
      · next h =>
        simp only [Memory.read, ih]
        by_cases hk : c = k
        · subst hk; simp [Ne.symm h]
        · simp [hk]

theorem Memory.mem_write {m : Memory} {a : Nat} {v : Byte} {c : Host.Cell} (h : c ∈ Memory.write m a v) :
    c = (a, v) ∨ c ∈ m := by
  induction m with
  | nil => simpa [Memory.write] using h
  | cons x m ih =>
    obtain ⟨k, w⟩ := x
    unfold Memory.write at h
    split at h
    · simpa using h
    · split at h
      · rcases List.mem_cons.mp h with h | h
        · exact .inl h
        · exact .inr (List.mem_cons_of_mem _ h)
      · rcases List.mem_cons.mp h with h | h
        · exact .inr (h ▸ List.mem_cons_self)
        · exact (ih h).imp_right (List.mem_cons_of_mem _)

theorem Memory.wf_iff (m : Memory) : m.wf = true ↔ m.Pairwise fun x y => x.1 < y.1 := by
  simp [Memory.wf]

/-- A write keeps the canonical form. -/
theorem Memory.wf_write {m : Memory} (h : m.wf = true) (a : Nat) (v : Byte) : (Memory.write m a v).wf = true := by
  rw [Memory.wf_iff] at h ⊢
  induction m with
  | nil => simp [Memory.write]
  | cons x m ih =>
    obtain ⟨k, w⟩ := x
    obtain ⟨hx, hm⟩ := List.pairwise_cons.mp h
    unfold Memory.write
    split
    · next hak =>
      refine List.pairwise_cons.mpr ⟨fun y hy => ?_, h⟩
      rcases List.mem_cons.mp hy with rfl | hy
      · exact hak
      · exact lt_trans hak (hx y hy)
    · next hak =>
      split
      · next he => subst he; exact List.pairwise_cons.mpr ⟨hx, hm⟩
      · next hne =>
        refine List.pairwise_cons.mpr ⟨fun y hy => ?_, ih hm⟩
        rcases Memory.mem_write hy with rfl | hy
        · exact lt_of_le_of_ne (not_lt.mp hak) (Ne.symm hne)
        · exact hx y hy

theorem Memory.read_eq_none_of_lt {m : Memory} {a : Nat} (h : ∀ c ∈ m, a < c.1) : m.read a = none := by
  induction m with
  | nil => rfl
  | cons x m ih =>
    obtain ⟨k, w⟩ := x
    have hk : a < k := h (k, w) List.mem_cons_self
    simp only [Memory.read, if_neg (Nat.ne_of_lt hk)]
    exact ih fun c hc => h c (List.mem_cons_of_mem _ hc)

theorem Memory.read_isSome_of_mem {m : Memory} {c : Host.Cell} (h : c ∈ m) : (m.read c.1).isSome = true := by
  induction m with
  | nil => cases h
  | cons x m ih =>
    obtain ⟨k, w⟩ := x
    simp only [Memory.read]
    split
    · rfl
    · next hne =>
      rcases List.mem_cons.mp h with rfl | h
      · exact absurd rfl hne
      · exact ih h

theorem Memory.mem_of_read {m : Memory} {a : Nat} {v : Byte} (h : m.read a = some v) : (a, v) ∈ m := by
  induction m with
  | nil => cases h
  | cons x m ih =>
    obtain ⟨k, w⟩ := x
    simp only [Memory.read] at h
    split at h
    · next he => cases h; subst he; exact List.mem_cons_self
    · exact List.mem_cons_of_mem _ (ih h)

/-- Equal readings of canonical memories are equal data. -/
theorem Memory.ext_of_wf {m n : Memory} (hm : m.wf = true) (hn : n.wf = true) (h : ∀ a, m.read a = n.read a) : m = n := by
  rw [Memory.wf_iff] at hm hn
  induction m generalizing n with
  | nil =>
    cases n with
    | nil => rfl
    | cons y n => obtain ⟨k, w⟩ := y; simpa [Memory.read] using h k
  | cons x m ih =>
    obtain ⟨k, w⟩ := x
    obtain ⟨hx, hm'⟩ := List.pairwise_cons.mp hm
    cases n with
    | nil => simpa [Memory.read] using h k
    | cons y n =>
      obtain ⟨l, u⟩ := y
      obtain ⟨hy, hn'⟩ := List.pairwise_cons.mp hn
      have hkl : k = l := by
        rcases lt_trichotomy k l with hlt | heq | hgt
        · have := h k
          rw [Memory.read_eq_none_of_lt (m := (l, u) :: n) (fun c hc => by
            rcases List.mem_cons.mp hc with rfl | hc
            · exact hlt
            · exact lt_trans hlt (hy c hc))] at this
          simp [Memory.read] at this
        · exact heq
        · have := h l
          rw [Memory.read_eq_none_of_lt (m := (k, w) :: m) (fun c hc => by
            rcases List.mem_cons.mp hc with rfl | hc
            · exact hgt
            · exact lt_trans hgt (hx c hc))] at this
          simp [Memory.read] at this
      subst hkl
      have hwu : w = u := by simpa [Memory.read] using h k
      subst hwu
      refine congrArg _ (ih hm' hn' fun a => ?_)
      by_cases ha : a = k
      · subst ha
        rw [Memory.read_eq_none_of_lt hx, Memory.read_eq_none_of_lt hy]
      · simpa [Memory.read, ha] using h a

/-! ### Elements -/

theorem elem_of_read {b : Build} {sp : Space} {m n : Memory} {a : Nat} (h : m.read a = n.read a) :
    elem b sp m a = elem b sp n a := by
  simp only [elem, h]

/-- A read of an element after a write of an element. -/
theorem elem_put (b : Build) (sp : Space) (m : Memory) (a c : Nat) (v : Byte) :
    elem b sp (put b sp m a v) c = if c = a then narrow b sp v else elem b sp m c := by
  simp only [elem, put, Memory.read_write]
  split <;> simp

@[simp] theorem elem_put_same (b : Build) (sp : Space) (m : Memory) (a : Nat) (v : Byte) :
    elem b sp (put b sp m a v) a = narrow b sp v := by
  simp [elem_put]

theorem elem_put_other {b : Build} {sp : Space} {m : Memory} {a c : Nat} {v : Byte} (h : c ≠ a) :
    elem b sp (put b sp m a v) c = elem b sp m c := by
  simp [elem_put, h]

@[simp] theorem narrow_elem (b : Build) (sp : Space) (m : Memory) (a : Nat) :
    narrow b sp (elem b sp m a) = elem b sp m a := by
  simp [elem]

/-- A table entry is below `N`, whatever the memory holds. -/
theorem elem_S_lt (b : Build) (m : Memory) (a : Nat) : (elem b .S m a).toNat < b.N := low_lt b _

/-- A shadow symbol is below `N`, whatever the memory holds. -/
theorem elem_SH_lt (b : Build) (m : Memory) (a : Nat) : (elem b .SH m a).toNat < b.N := low_lt b _

/-- An exchange: the two entries change places, all others stay (20_memory.md R68). -/
theorem elem_swap (b : Build) (sp : Space) (m : Memory) (x y c : Nat) :
    elem b sp (swap b sp m x y) c =
      if c = x then elem b sp m y else if c = y then elem b sp m x else elem b sp m c := by
  simp only [swap, elem_put, narrow_elem]
  by_cases hy : c = y
  · subst hy; by_cases hx : c = x
    · subst hx; simp
    · simp [hx]
  · simp [hy]

theorem fill_succ (b : Build) (sp : Space) (m : Memory) (n : Nat) (f : Nat → Byte) :
    fill b sp m (n + 1) f = put b sp (fill b sp m n f) n (f n) := by
  simp [fill, List.range_succ]

@[simp] theorem fill_zero (b : Build) (sp : Space) (m : Memory) (f : Nat → Byte) : fill b sp m 0 f = m := rfl

/-- A read after a fill. -/
theorem read_fill (b : Build) (sp : Space) (m : Memory) (n : Nat) (f : Nat → Byte) (c : Nat) :
    (fill b sp m n f).read c = if c < n then some (narrow b sp (f c)) else m.read c := by
  induction n with
  | zero => simp
  | succ n ih =>
    rw [fill_succ, put, Memory.read_write, ih]
    by_cases h : c = n
    · subst h; simp
    · by_cases h' : c < n
      · simp [h, h', Nat.lt_succ_of_lt h']
      · have : ¬ c < n + 1 := by omega
        simp [h, h', this]

theorem elem_fill (b : Build) (sp : Space) (m : Memory) (n : Nat) (f : Nat → Byte) (c : Nat) :
    elem b sp (fill b sp m n f) c = if c < n then narrow b sp (f c) else elem b sp m c := by
  simp only [elem, read_fill]
  split <;> simp

/-! ### The canonical form is kept -/

theorem memoryOk_nil (b : Build) (sp : Space) : MemoryOk b sp [] := by
  refine ⟨by decide, fun c hc => by cases hc⟩

theorem MemoryOk.put {b : Build} {sp : Space} {m : Memory} (h : MemoryOk b sp m) {a : Nat} (ha : a < sp.size b) (v : Byte) :
    MemoryOk b sp (put b sp m a v) := by
  refine ⟨Memory.wf_write h.1 _ _, fun c hc => ?_⟩
  rcases Memory.mem_write hc with rfl | hc
  · exact ⟨ha, narrow_narrow b sp v⟩
  · exact h.2 c hc

theorem MemoryOk.swap {b : Build} {sp : Space} {m : Memory} (h : MemoryOk b sp m) {x y : Nat} (hx : x < sp.size b)
    (hy : y < sp.size b) : MemoryOk b sp (swap b sp m x y) := (h.put hx _).put hy _

theorem MemoryOk.fill {b : Build} {sp : Space} {m : Memory} (h : MemoryOk b sp m) {n : Nat} (hn : n ≤ sp.size b)
    (f : Nat → Byte) : MemoryOk b sp (fill b sp m n f) := by
  induction n with
  | zero => simpa using h
  | succ n ih =>
    rw [fill_succ]
    exact (ih (by omega)).put (by omega) _

/-- A write keeps written what was written, and writes one element more. -/
theorem Written.put {m : Memory} {n : Nat} (h : Written m n) (b : Build) (sp : Space) (a : Nat) (v : Byte) :
    Written (put b sp m a v) n := by
  intro c hc
  simp only [Sys2Proof.Machine.put, Memory.read_write]
  split
  · rfl
  · exact h c hc

theorem Written.put_next {m : Memory} {n : Nat} (h : Written m n) (b : Build) (sp : Space) (v : Byte) :
    Written (Sys2Proof.Machine.put b sp m n v) (n + 1) := by
  intro c hc
  simp only [Sys2Proof.Machine.put, Memory.read_write]
  split
  · rfl
  · exact h c (by omega)

theorem Written.swap {m : Memory} {n : Nat} (h : Written m n) (b : Build) (sp : Space) (x y : Nat) :
    Written (swap b sp m x y) n := (h.put b sp x _).put b sp y _

theorem written_fill (b : Build) (sp : Space) (m : Memory) (n : Nat) (f : Nat → Byte) : Written (fill b sp m n f) n := by
  intro c hc
  simp [read_fill, hc]

theorem written_zero (m : Memory) : Written m 0 := fun a ha => absurd ha (Nat.not_lt_zero a)

end Sys2Proof.Machine
end

