-- ==== Sys2Proof/Laws/State.lean ====
section
/-!
SUPPORT. The small lemmas of the named updates of State: what each field holds after each update, true by unfolding, so that
no later proof unfolds a record update.
-/

namespace Sys2Proof.Machine

variable (s : State)

/-! ### State.finish -/

@[simp] theorem State.finish_build (c : Code) (d : Data) : (s.finish c d).build = s.build := rfl
@[simp] theorem State.finish_S (c : Code) (d : Data) : (s.finish c d).S = s.S := rfl
@[simp] theorem State.finish_I (c : Code) (d : Data) : (s.finish c d).I = s.I := rfl
@[simp] theorem State.finish_J (c : Code) (d : Data) : (s.finish c d).J = s.J := rfl
@[simp] theorem State.finish_SEEDED (c : Code) (d : Data) : (s.finish c d).SEEDED = s.SEEDED := rfl
@[simp] theorem State.finish_K (c : Code) (d : Data) : (s.finish c d).K = s.K := rfl
@[simp] theorem State.finish_KLEN (c : Code) (d : Data) : (s.finish c d).KLEN = s.KLEN := rfl
@[simp] theorem State.finish_KTRUNC (c : Code) (d : Data) : (s.finish c d).KTRUNC = s.KTRUNC := rfl
@[simp] theorem State.finish_SH (c : Code) (d : Data) : (s.finish c d).SH = s.SH := rfl
@[simp] theorem State.finish_CNT (c : Code) (d : Data) : (s.finish c d).CNT = s.CNT := rfl
@[simp] theorem State.finish_LDBAD (c : Code) (d : Data) : (s.finish c d).LDBAD = s.LDBAD := rfl
@[simp] theorem State.finish_LDOVF (c : Code) (d : Data) : (s.finish c d).LDOVF = s.LDOVF := rfl
@[simp] theorem State.finish_ERR (c : Code) (d : Data) : (s.finish c d).ERR = (if c = .ok then s.ERR else true) := rfl
@[simp] theorem State.finish_LASTERR (c : Code) (d : Data) : (s.finish c d).LASTERR = (if c = .ok then s.LASTERR else c.bits) := rfl
@[simp] theorem State.finish_PH (c : Code) (d : Data) : (s.finish c d).PH = .idle := rfl
@[simp] theorem State.finish_OPC (c : Code) (d : Data) : (s.finish c d).OPC = s.OPC := rfl
@[simp] theorem State.finish_C (c : Code) (d : Data) : (s.finish c d).C = s.C := rfl
@[simp] theorem State.finish_JA (c : Code) (d : Data) : (s.finish c d).JA = s.JA := rfl
@[simp] theorem State.finish_TA (c : Code) (d : Data) : (s.finish c d).TA = s.TA := rfl
@[simp] theorem State.finish_TB (c : Code) (d : Data) : (s.finish c d).TB = s.TB := rfl
@[simp] theorem State.finish_OUT (c : Code) (d : Data) : (s.finish c d).OUT = s.OUT := rfl
@[simp] theorem State.finish_WACC (c : Code) (d : Data) : (s.finish c d).WACC = s.WACC := rfl
@[simp] theorem State.finish_WK (c : Code) (d : Data) : (s.finish c d).WK = s.WK := rfl
@[simp] theorem State.finish_SEEN (c : Code) (d : Data) : (s.finish c d).SEEN = s.SEEN := rfl
@[simp] theorem State.finish_ECNT (c : Code) (d : Data) : (s.finish c d).ECNT = s.ECNT := rfl
@[simp] theorem State.finish_RV (c : Code) (d : Data) : (s.finish c d).RV = true := rfl
@[simp] theorem State.finish_RSP (c : Code) (d : Data) : (s.finish c d).RSP = (rspWord c d) := rfl
@[simp] theorem State.finish_cmdIn (c : Code) (d : Data) : (s.finish c d).cmdIn = s.cmdIn := rfl
@[simp] theorem State.finish_entIn (c : Code) (d : Data) : (s.finish c d).entIn = s.entIn := rfl
@[simp] theorem State.finish_draws (c : Code) (d : Data) : (s.finish c d).draws = s.draws := rfl

/-! ### State.answered -/

@[simp] theorem State.answered_build (c : Code) (d : Data) : (s.answered c d).build = s.build := rfl
@[simp] theorem State.answered_S (c : Code) (d : Data) : (s.answered c d).S = s.S := rfl
@[simp] theorem State.answered_I (c : Code) (d : Data) : (s.answered c d).I = s.I := rfl
@[simp] theorem State.answered_J (c : Code) (d : Data) : (s.answered c d).J = s.J := rfl
@[simp] theorem State.answered_SEEDED (c : Code) (d : Data) : (s.answered c d).SEEDED = s.SEEDED := rfl
@[simp] theorem State.answered_K (c : Code) (d : Data) : (s.answered c d).K = s.K := rfl
@[simp] theorem State.answered_KLEN (c : Code) (d : Data) : (s.answered c d).KLEN = s.KLEN := rfl
@[simp] theorem State.answered_KTRUNC (c : Code) (d : Data) : (s.answered c d).KTRUNC = s.KTRUNC := rfl
@[simp] theorem State.answered_SH (c : Code) (d : Data) : (s.answered c d).SH = s.SH := rfl
@[simp] theorem State.answered_CNT (c : Code) (d : Data) : (s.answered c d).CNT = s.CNT := rfl
@[simp] theorem State.answered_LDBAD (c : Code) (d : Data) : (s.answered c d).LDBAD = s.LDBAD := rfl
@[simp] theorem State.answered_LDOVF (c : Code) (d : Data) : (s.answered c d).LDOVF = s.LDOVF := rfl
@[simp] theorem State.answered_ERR (c : Code) (d : Data) : (s.answered c d).ERR = s.ERR := rfl
@[simp] theorem State.answered_LASTERR (c : Code) (d : Data) : (s.answered c d).LASTERR = s.LASTERR := rfl
@[simp] theorem State.answered_PH (c : Code) (d : Data) : (s.answered c d).PH = .idle := rfl
@[simp] theorem State.answered_OPC (c : Code) (d : Data) : (s.answered c d).OPC = s.OPC := rfl
@[simp] theorem State.answered_C (c : Code) (d : Data) : (s.answered c d).C = s.C := rfl
@[simp] theorem State.answered_JA (c : Code) (d : Data) : (s.answered c d).JA = s.JA := rfl
@[simp] theorem State.answered_TA (c : Code) (d : Data) : (s.answered c d).TA = s.TA := rfl
@[simp] theorem State.answered_TB (c : Code) (d : Data) : (s.answered c d).TB = s.TB := rfl
@[simp] theorem State.answered_OUT (c : Code) (d : Data) : (s.answered c d).OUT = s.OUT := rfl
@[simp] theorem State.answered_WACC (c : Code) (d : Data) : (s.answered c d).WACC = s.WACC := rfl
@[simp] theorem State.answered_WK (c : Code) (d : Data) : (s.answered c d).WK = s.WK := rfl
@[simp] theorem State.answered_SEEN (c : Code) (d : Data) : (s.answered c d).SEEN = s.SEEN := rfl
@[simp] theorem State.answered_ECNT (c : Code) (d : Data) : (s.answered c d).ECNT = s.ECNT := rfl
@[simp] theorem State.answered_RV (c : Code) (d : Data) : (s.answered c d).RV = true := rfl
@[simp] theorem State.answered_RSP (c : Code) (d : Data) : (s.answered c d).RSP = (rspWord c d) := rfl
@[simp] theorem State.answered_cmdIn (c : Code) (d : Data) : (s.answered c d).cmdIn = s.cmdIn := rfl
@[simp] theorem State.answered_entIn (c : Code) (d : Data) : (s.answered c d).entIn = s.entIn := rfl
@[simp] theorem State.answered_draws (c : Code) (d : Data) : (s.answered c d).draws = s.draws := rfl

/-! ### State.errored -/

@[simp] theorem State.errored_build (c : Code) (d : Data) : (s.errored c d).build = s.build := rfl
@[simp] theorem State.errored_S (c : Code) (d : Data) : (s.errored c d).S = s.S := rfl
@[simp] theorem State.errored_I (c : Code) (d : Data) : (s.errored c d).I = s.I := rfl
@[simp] theorem State.errored_J (c : Code) (d : Data) : (s.errored c d).J = s.J := rfl
@[simp] theorem State.errored_SEEDED (c : Code) (d : Data) : (s.errored c d).SEEDED = s.SEEDED := rfl
@[simp] theorem State.errored_K (c : Code) (d : Data) : (s.errored c d).K = s.K := rfl
@[simp] theorem State.errored_KLEN (c : Code) (d : Data) : (s.errored c d).KLEN = s.KLEN := rfl
@[simp] theorem State.errored_KTRUNC (c : Code) (d : Data) : (s.errored c d).KTRUNC = s.KTRUNC := rfl
@[simp] theorem State.errored_SH (c : Code) (d : Data) : (s.errored c d).SH = s.SH := rfl
@[simp] theorem State.errored_CNT (c : Code) (d : Data) : (s.errored c d).CNT = s.CNT := rfl
@[simp] theorem State.errored_LDBAD (c : Code) (d : Data) : (s.errored c d).LDBAD = s.LDBAD := rfl
@[simp] theorem State.errored_LDOVF (c : Code) (d : Data) : (s.errored c d).LDOVF = s.LDOVF := rfl
@[simp] theorem State.errored_ERR (c : Code) (d : Data) : (s.errored c d).ERR = true := rfl
@[simp] theorem State.errored_LASTERR (c : Code) (d : Data) : (s.errored c d).LASTERR = c.bits := rfl
@[simp] theorem State.errored_PH (c : Code) (d : Data) : (s.errored c d).PH = .idle := rfl
@[simp] theorem State.errored_OPC (c : Code) (d : Data) : (s.errored c d).OPC = s.OPC := rfl
@[simp] theorem State.errored_C (c : Code) (d : Data) : (s.errored c d).C = s.C := rfl
@[simp] theorem State.errored_JA (c : Code) (d : Data) : (s.errored c d).JA = s.JA := rfl
@[simp] theorem State.errored_TA (c : Code) (d : Data) : (s.errored c d).TA = s.TA := rfl
@[simp] theorem State.errored_TB (c : Code) (d : Data) : (s.errored c d).TB = s.TB := rfl
@[simp] theorem State.errored_OUT (c : Code) (d : Data) : (s.errored c d).OUT = s.OUT := rfl
@[simp] theorem State.errored_WACC (c : Code) (d : Data) : (s.errored c d).WACC = s.WACC := rfl
@[simp] theorem State.errored_WK (c : Code) (d : Data) : (s.errored c d).WK = s.WK := rfl
@[simp] theorem State.errored_SEEN (c : Code) (d : Data) : (s.errored c d).SEEN = s.SEEN := rfl
@[simp] theorem State.errored_ECNT (c : Code) (d : Data) : (s.errored c d).ECNT = s.ECNT := rfl
@[simp] theorem State.errored_RV (c : Code) (d : Data) : (s.errored c d).RV = true := rfl
@[simp] theorem State.errored_RSP (c : Code) (d : Data) : (s.errored c d).RSP = (rspWord c d) := rfl
@[simp] theorem State.errored_cmdIn (c : Code) (d : Data) : (s.errored c d).cmdIn = s.cmdIn := rfl
@[simp] theorem State.errored_entIn (c : Code) (d : Data) : (s.errored c d).entIn = s.entIn := rfl
@[simp] theorem State.errored_draws (c : Code) (d : Data) : (s.errored c d).draws = s.draws := rfl

/-! ### State.takeResponse -/

@[simp] theorem State.takeResponse_build : (s.takeResponse).build = s.build := rfl
@[simp] theorem State.takeResponse_S : (s.takeResponse).S = s.S := rfl
@[simp] theorem State.takeResponse_I : (s.takeResponse).I = s.I := rfl
@[simp] theorem State.takeResponse_J : (s.takeResponse).J = s.J := rfl
@[simp] theorem State.takeResponse_SEEDED : (s.takeResponse).SEEDED = s.SEEDED := rfl
@[simp] theorem State.takeResponse_K : (s.takeResponse).K = s.K := rfl
@[simp] theorem State.takeResponse_KLEN : (s.takeResponse).KLEN = s.KLEN := rfl
@[simp] theorem State.takeResponse_KTRUNC : (s.takeResponse).KTRUNC = s.KTRUNC := rfl
@[simp] theorem State.takeResponse_SH : (s.takeResponse).SH = s.SH := rfl
@[simp] theorem State.takeResponse_CNT : (s.takeResponse).CNT = s.CNT := rfl
@[simp] theorem State.takeResponse_LDBAD : (s.takeResponse).LDBAD = s.LDBAD := rfl
@[simp] theorem State.takeResponse_LDOVF : (s.takeResponse).LDOVF = s.LDOVF := rfl
@[simp] theorem State.takeResponse_ERR : (s.takeResponse).ERR = s.ERR := rfl
@[simp] theorem State.takeResponse_LASTERR : (s.takeResponse).LASTERR = s.LASTERR := rfl
@[simp] theorem State.takeResponse_PH : (s.takeResponse).PH = s.PH := rfl
@[simp] theorem State.takeResponse_OPC : (s.takeResponse).OPC = s.OPC := rfl
@[simp] theorem State.takeResponse_C : (s.takeResponse).C = s.C := rfl
@[simp] theorem State.takeResponse_JA : (s.takeResponse).JA = s.JA := rfl
@[simp] theorem State.takeResponse_TA : (s.takeResponse).TA = s.TA := rfl
@[simp] theorem State.takeResponse_TB : (s.takeResponse).TB = s.TB := rfl
@[simp] theorem State.takeResponse_OUT : (s.takeResponse).OUT = s.OUT := rfl
@[simp] theorem State.takeResponse_WACC : (s.takeResponse).WACC = s.WACC := rfl
@[simp] theorem State.takeResponse_WK : (s.takeResponse).WK = s.WK := rfl
@[simp] theorem State.takeResponse_SEEN : (s.takeResponse).SEEN = s.SEEN := rfl
@[simp] theorem State.takeResponse_ECNT : (s.takeResponse).ECNT = s.ECNT := rfl
@[simp] theorem State.takeResponse_RV : (s.takeResponse).RV = false := rfl
@[simp] theorem State.takeResponse_RSP : (s.takeResponse).RSP = s.RSP := rfl
@[simp] theorem State.takeResponse_cmdIn : (s.takeResponse).cmdIn = s.cmdIn := rfl
@[simp] theorem State.takeResponse_entIn : (s.takeResponse).entIn = s.entIn := rfl
@[simp] theorem State.takeResponse_draws : (s.takeResponse).draws = s.draws := rfl

/-! ### State.acceptWord -/

@[simp] theorem State.acceptWord_build (w : CmdWord) : (s.acceptWord w).build = s.build := rfl
@[simp] theorem State.acceptWord_S (w : CmdWord) : (s.acceptWord w).S = s.S := rfl
@[simp] theorem State.acceptWord_I (w : CmdWord) : (s.acceptWord w).I = s.I := rfl
@[simp] theorem State.acceptWord_J (w : CmdWord) : (s.acceptWord w).J = s.J := rfl
@[simp] theorem State.acceptWord_SEEDED (w : CmdWord) : (s.acceptWord w).SEEDED = s.SEEDED := rfl
@[simp] theorem State.acceptWord_K (w : CmdWord) : (s.acceptWord w).K = s.K := rfl
@[simp] theorem State.acceptWord_KLEN (w : CmdWord) : (s.acceptWord w).KLEN = s.KLEN := rfl
@[simp] theorem State.acceptWord_KTRUNC (w : CmdWord) : (s.acceptWord w).KTRUNC = s.KTRUNC := rfl
@[simp] theorem State.acceptWord_SH (w : CmdWord) : (s.acceptWord w).SH = s.SH := rfl
@[simp] theorem State.acceptWord_CNT (w : CmdWord) : (s.acceptWord w).CNT = s.CNT := rfl
@[simp] theorem State.acceptWord_LDBAD (w : CmdWord) : (s.acceptWord w).LDBAD = s.LDBAD := rfl
@[simp] theorem State.acceptWord_LDOVF (w : CmdWord) : (s.acceptWord w).LDOVF = s.LDOVF := rfl
@[simp] theorem State.acceptWord_ERR (w : CmdWord) : (s.acceptWord w).ERR = s.ERR := rfl
@[simp] theorem State.acceptWord_LASTERR (w : CmdWord) : (s.acceptWord w).LASTERR = s.LASTERR := rfl
@[simp] theorem State.acceptWord_PH (w : CmdWord) : (s.acceptWord w).PH = s.PH := rfl
@[simp] theorem State.acceptWord_OPC (w : CmdWord) : (s.acceptWord w).OPC = w := rfl
@[simp] theorem State.acceptWord_C (w : CmdWord) : (s.acceptWord w).C = s.C := rfl
@[simp] theorem State.acceptWord_JA (w : CmdWord) : (s.acceptWord w).JA = s.JA := rfl
@[simp] theorem State.acceptWord_TA (w : CmdWord) : (s.acceptWord w).TA = s.TA := rfl
@[simp] theorem State.acceptWord_TB (w : CmdWord) : (s.acceptWord w).TB = s.TB := rfl
@[simp] theorem State.acceptWord_OUT (w : CmdWord) : (s.acceptWord w).OUT = s.OUT := rfl
@[simp] theorem State.acceptWord_WACC (w : CmdWord) : (s.acceptWord w).WACC = s.WACC := rfl
@[simp] theorem State.acceptWord_WK (w : CmdWord) : (s.acceptWord w).WK = s.WK := rfl
@[simp] theorem State.acceptWord_SEEN (w : CmdWord) : (s.acceptWord w).SEEN = s.SEEN := rfl
@[simp] theorem State.acceptWord_ECNT (w : CmdWord) : (s.acceptWord w).ECNT = s.ECNT := rfl
@[simp] theorem State.acceptWord_RV (w : CmdWord) : (s.acceptWord w).RV = s.RV := rfl
@[simp] theorem State.acceptWord_RSP (w : CmdWord) : (s.acceptWord w).RSP = s.RSP := rfl
@[simp] theorem State.acceptWord_cmdIn (w : CmdWord) : (s.acceptWord w).cmdIn = s.cmdIn.tail := rfl
@[simp] theorem State.acceptWord_entIn (w : CmdWord) : (s.acceptWord w).entIn = s.entIn := rfl
@[simp] theorem State.acceptWord_draws (w : CmdWord) : (s.acceptWord w).draws = s.draws := rfl

/-! ### State.presentWord -/

@[simp] theorem State.presentWord_build (w : CmdWord) : (s.presentWord w).build = s.build := rfl
@[simp] theorem State.presentWord_S (w : CmdWord) : (s.presentWord w).S = s.S := rfl
@[simp] theorem State.presentWord_I (w : CmdWord) : (s.presentWord w).I = s.I := rfl
@[simp] theorem State.presentWord_J (w : CmdWord) : (s.presentWord w).J = s.J := rfl
@[simp] theorem State.presentWord_SEEDED (w : CmdWord) : (s.presentWord w).SEEDED = s.SEEDED := rfl
@[simp] theorem State.presentWord_K (w : CmdWord) : (s.presentWord w).K = s.K := rfl
@[simp] theorem State.presentWord_KLEN (w : CmdWord) : (s.presentWord w).KLEN = s.KLEN := rfl
@[simp] theorem State.presentWord_KTRUNC (w : CmdWord) : (s.presentWord w).KTRUNC = s.KTRUNC := rfl
@[simp] theorem State.presentWord_SH (w : CmdWord) : (s.presentWord w).SH = s.SH := rfl
@[simp] theorem State.presentWord_CNT (w : CmdWord) : (s.presentWord w).CNT = s.CNT := rfl
@[simp] theorem State.presentWord_LDBAD (w : CmdWord) : (s.presentWord w).LDBAD = s.LDBAD := rfl
@[simp] theorem State.presentWord_LDOVF (w : CmdWord) : (s.presentWord w).LDOVF = s.LDOVF := rfl
@[simp] theorem State.presentWord_ERR (w : CmdWord) : (s.presentWord w).ERR = s.ERR := rfl
@[simp] theorem State.presentWord_LASTERR (w : CmdWord) : (s.presentWord w).LASTERR = s.LASTERR := rfl
@[simp] theorem State.presentWord_PH (w : CmdWord) : (s.presentWord w).PH = .idle := rfl
@[simp] theorem State.presentWord_OPC (w : CmdWord) : (s.presentWord w).OPC = s.OPC := rfl
@[simp] theorem State.presentWord_C (w : CmdWord) : (s.presentWord w).C = s.C := rfl
@[simp] theorem State.presentWord_JA (w : CmdWord) : (s.presentWord w).JA = s.JA := rfl
@[simp] theorem State.presentWord_TA (w : CmdWord) : (s.presentWord w).TA = s.TA := rfl
@[simp] theorem State.presentWord_TB (w : CmdWord) : (s.presentWord w).TB = s.TB := rfl
@[simp] theorem State.presentWord_OUT (w : CmdWord) : (s.presentWord w).OUT = s.OUT := rfl
@[simp] theorem State.presentWord_WACC (w : CmdWord) : (s.presentWord w).WACC = s.WACC := rfl
@[simp] theorem State.presentWord_WK (w : CmdWord) : (s.presentWord w).WK = s.WK := rfl
@[simp] theorem State.presentWord_SEEN (w : CmdWord) : (s.presentWord w).SEEN = s.SEEN := rfl
@[simp] theorem State.presentWord_ECNT (w : CmdWord) : (s.presentWord w).ECNT = s.ECNT := rfl
@[simp] theorem State.presentWord_RV (w : CmdWord) : (s.presentWord w).RV = false := rfl
@[simp] theorem State.presentWord_RSP (w : CmdWord) : (s.presentWord w).RSP = s.RSP := rfl
@[simp] theorem State.presentWord_cmdIn (w : CmdWord) : (s.presentWord w).cmdIn = (w :: s.cmdIn) := rfl
@[simp] theorem State.presentWord_entIn (w : CmdWord) : (s.presentWord w).entIn = s.entIn := rfl
@[simp] theorem State.presentWord_draws (w : CmdWord) : (s.presentWord w).draws = s.draws := rfl

/-! ### State.enter -/

@[simp] theorem State.enter_build (p : Phase) : (s.enter p).build = s.build := rfl
@[simp] theorem State.enter_S (p : Phase) : (s.enter p).S = s.S := rfl
@[simp] theorem State.enter_I (p : Phase) : (s.enter p).I = s.I := rfl
@[simp] theorem State.enter_J (p : Phase) : (s.enter p).J = s.J := rfl
@[simp] theorem State.enter_SEEDED (p : Phase) : (s.enter p).SEEDED = s.SEEDED := rfl
@[simp] theorem State.enter_K (p : Phase) : (s.enter p).K = s.K := rfl
@[simp] theorem State.enter_KLEN (p : Phase) : (s.enter p).KLEN = s.KLEN := rfl
@[simp] theorem State.enter_KTRUNC (p : Phase) : (s.enter p).KTRUNC = s.KTRUNC := rfl
@[simp] theorem State.enter_SH (p : Phase) : (s.enter p).SH = s.SH := rfl
@[simp] theorem State.enter_CNT (p : Phase) : (s.enter p).CNT = s.CNT := rfl
@[simp] theorem State.enter_LDBAD (p : Phase) : (s.enter p).LDBAD = s.LDBAD := rfl
@[simp] theorem State.enter_LDOVF (p : Phase) : (s.enter p).LDOVF = s.LDOVF := rfl
@[simp] theorem State.enter_ERR (p : Phase) : (s.enter p).ERR = s.ERR := rfl
@[simp] theorem State.enter_LASTERR (p : Phase) : (s.enter p).LASTERR = s.LASTERR := rfl
@[simp] theorem State.enter_PH (p : Phase) : (s.enter p).PH = p := rfl
@[simp] theorem State.enter_OPC (p : Phase) : (s.enter p).OPC = s.OPC := rfl
@[simp] theorem State.enter_C (p : Phase) : (s.enter p).C = s.C := rfl
@[simp] theorem State.enter_JA (p : Phase) : (s.enter p).JA = s.JA := rfl
@[simp] theorem State.enter_TA (p : Phase) : (s.enter p).TA = s.TA := rfl
@[simp] theorem State.enter_TB (p : Phase) : (s.enter p).TB = s.TB := rfl
@[simp] theorem State.enter_OUT (p : Phase) : (s.enter p).OUT = s.OUT := rfl
@[simp] theorem State.enter_WACC (p : Phase) : (s.enter p).WACC = s.WACC := rfl
@[simp] theorem State.enter_WK (p : Phase) : (s.enter p).WK = s.WK := rfl
@[simp] theorem State.enter_SEEN (p : Phase) : (s.enter p).SEEN = s.SEEN := rfl
@[simp] theorem State.enter_ECNT (p : Phase) : (s.enter p).ECNT = s.ECNT := rfl
@[simp] theorem State.enter_RV (p : Phase) : (s.enter p).RV = s.RV := rfl
@[simp] theorem State.enter_RSP (p : Phase) : (s.enter p).RSP = s.RSP := rfl
@[simp] theorem State.enter_cmdIn (p : Phase) : (s.enter p).cmdIn = s.cmdIn := rfl
@[simp] theorem State.enter_entIn (p : Phase) : (s.enter p).entIn = s.entIn := rfl
@[simp] theorem State.enter_draws (p : Phase) : (s.enter p).draws = s.draws := rfl

/-! ### State.setLive -/

@[simp] theorem State.setLive_build (l : Live) : (s.setLive l).build = s.build := rfl
@[simp] theorem State.setLive_S (l : Live) : (s.setLive l).S = l.S := rfl
@[simp] theorem State.setLive_I (l : Live) : (s.setLive l).I = l.I := rfl
@[simp] theorem State.setLive_J (l : Live) : (s.setLive l).J = l.J := rfl
@[simp] theorem State.setLive_SEEDED (l : Live) : (s.setLive l).SEEDED = s.SEEDED := rfl
@[simp] theorem State.setLive_K (l : Live) : (s.setLive l).K = s.K := rfl
@[simp] theorem State.setLive_KLEN (l : Live) : (s.setLive l).KLEN = s.KLEN := rfl
@[simp] theorem State.setLive_KTRUNC (l : Live) : (s.setLive l).KTRUNC = s.KTRUNC := rfl
@[simp] theorem State.setLive_SH (l : Live) : (s.setLive l).SH = s.SH := rfl
@[simp] theorem State.setLive_CNT (l : Live) : (s.setLive l).CNT = s.CNT := rfl
@[simp] theorem State.setLive_LDBAD (l : Live) : (s.setLive l).LDBAD = s.LDBAD := rfl
@[simp] theorem State.setLive_LDOVF (l : Live) : (s.setLive l).LDOVF = s.LDOVF := rfl
@[simp] theorem State.setLive_ERR (l : Live) : (s.setLive l).ERR = s.ERR := rfl
@[simp] theorem State.setLive_LASTERR (l : Live) : (s.setLive l).LASTERR = s.LASTERR := rfl
@[simp] theorem State.setLive_PH (l : Live) : (s.setLive l).PH = s.PH := rfl
@[simp] theorem State.setLive_OPC (l : Live) : (s.setLive l).OPC = s.OPC := rfl
@[simp] theorem State.setLive_C (l : Live) : (s.setLive l).C = s.C := rfl
@[simp] theorem State.setLive_JA (l : Live) : (s.setLive l).JA = s.JA := rfl
@[simp] theorem State.setLive_TA (l : Live) : (s.setLive l).TA = s.TA := rfl
@[simp] theorem State.setLive_TB (l : Live) : (s.setLive l).TB = s.TB := rfl
@[simp] theorem State.setLive_OUT (l : Live) : (s.setLive l).OUT = s.OUT := rfl
@[simp] theorem State.setLive_WACC (l : Live) : (s.setLive l).WACC = s.WACC := rfl
@[simp] theorem State.setLive_WK (l : Live) : (s.setLive l).WK = s.WK := rfl
@[simp] theorem State.setLive_SEEN (l : Live) : (s.setLive l).SEEN = s.SEEN := rfl
@[simp] theorem State.setLive_ECNT (l : Live) : (s.setLive l).ECNT = s.ECNT := rfl
@[simp] theorem State.setLive_RV (l : Live) : (s.setLive l).RV = s.RV := rfl
@[simp] theorem State.setLive_RSP (l : Live) : (s.setLive l).RSP = s.RSP := rfl
@[simp] theorem State.setLive_cmdIn (l : Live) : (s.setLive l).cmdIn = s.cmdIn := rfl
@[simp] theorem State.setLive_entIn (l : Live) : (s.setLive l).entIn = s.entIn := rfl
@[simp] theorem State.setLive_draws (l : Live) : (s.setLive l).draws = s.draws := rfl

/-! ### State.clearKey -/

@[simp] theorem State.clearKey_build : (s.clearKey).build = s.build := rfl
@[simp] theorem State.clearKey_S : (s.clearKey).S = s.S := rfl
@[simp] theorem State.clearKey_I : (s.clearKey).I = s.I := rfl
@[simp] theorem State.clearKey_J : (s.clearKey).J = s.J := rfl
@[simp] theorem State.clearKey_SEEDED : (s.clearKey).SEEDED = s.SEEDED := rfl
@[simp] theorem State.clearKey_K : (s.clearKey).K = s.K := rfl
@[simp] theorem State.clearKey_KLEN : (s.clearKey).KLEN = 0 := rfl
@[simp] theorem State.clearKey_KTRUNC : (s.clearKey).KTRUNC = false := rfl
@[simp] theorem State.clearKey_SH : (s.clearKey).SH = s.SH := rfl
@[simp] theorem State.clearKey_CNT : (s.clearKey).CNT = s.CNT := rfl
@[simp] theorem State.clearKey_LDBAD : (s.clearKey).LDBAD = s.LDBAD := rfl
@[simp] theorem State.clearKey_LDOVF : (s.clearKey).LDOVF = s.LDOVF := rfl
@[simp] theorem State.clearKey_ERR : (s.clearKey).ERR = s.ERR := rfl
@[simp] theorem State.clearKey_LASTERR : (s.clearKey).LASTERR = s.LASTERR := rfl
@[simp] theorem State.clearKey_PH : (s.clearKey).PH = s.PH := rfl
@[simp] theorem State.clearKey_OPC : (s.clearKey).OPC = s.OPC := rfl
@[simp] theorem State.clearKey_C : (s.clearKey).C = s.C := rfl
@[simp] theorem State.clearKey_JA : (s.clearKey).JA = s.JA := rfl
@[simp] theorem State.clearKey_TA : (s.clearKey).TA = s.TA := rfl
@[simp] theorem State.clearKey_TB : (s.clearKey).TB = s.TB := rfl
@[simp] theorem State.clearKey_OUT : (s.clearKey).OUT = s.OUT := rfl
@[simp] theorem State.clearKey_WACC : (s.clearKey).WACC = s.WACC := rfl
@[simp] theorem State.clearKey_WK : (s.clearKey).WK = s.WK := rfl
@[simp] theorem State.clearKey_SEEN : (s.clearKey).SEEN = s.SEEN := rfl
@[simp] theorem State.clearKey_ECNT : (s.clearKey).ECNT = s.ECNT := rfl
@[simp] theorem State.clearKey_RV : (s.clearKey).RV = s.RV := rfl
@[simp] theorem State.clearKey_RSP : (s.clearKey).RSP = s.RSP := rfl
@[simp] theorem State.clearKey_cmdIn : (s.clearKey).cmdIn = s.cmdIn := rfl
@[simp] theorem State.clearKey_entIn : (s.clearKey).entIn = s.entIn := rfl
@[simp] theorem State.clearKey_draws : (s.clearKey).draws = s.draws := rfl

/-! ### State.finishSeed -/

@[simp] theorem State.finishSeed_build : (s.finishSeed).build = s.build := rfl
@[simp] theorem State.finishSeed_S : (s.finishSeed).S = s.S := rfl
@[simp] theorem State.finishSeed_I : (s.finishSeed).I = 0#8 := rfl
@[simp] theorem State.finishSeed_J : (s.finishSeed).J = 0#8 := rfl
@[simp] theorem State.finishSeed_SEEDED : (s.finishSeed).SEEDED = true := rfl
@[simp] theorem State.finishSeed_K : (s.finishSeed).K = [] := rfl
@[simp] theorem State.finishSeed_KLEN : (s.finishSeed).KLEN = 0 := rfl
@[simp] theorem State.finishSeed_KTRUNC : (s.finishSeed).KTRUNC = false := rfl
@[simp] theorem State.finishSeed_SH : (s.finishSeed).SH = s.SH := rfl
@[simp] theorem State.finishSeed_CNT : (s.finishSeed).CNT = s.CNT := rfl
@[simp] theorem State.finishSeed_LDBAD : (s.finishSeed).LDBAD = s.LDBAD := rfl
@[simp] theorem State.finishSeed_LDOVF : (s.finishSeed).LDOVF = s.LDOVF := rfl
@[simp] theorem State.finishSeed_ERR : (s.finishSeed).ERR = s.ERR := rfl
@[simp] theorem State.finishSeed_LASTERR : (s.finishSeed).LASTERR = s.LASTERR := rfl
@[simp] theorem State.finishSeed_PH : (s.finishSeed).PH = s.PH := rfl
@[simp] theorem State.finishSeed_OPC : (s.finishSeed).OPC = s.OPC := rfl
@[simp] theorem State.finishSeed_C : (s.finishSeed).C = s.C := rfl
@[simp] theorem State.finishSeed_JA : (s.finishSeed).JA = s.JA := rfl
@[simp] theorem State.finishSeed_TA : (s.finishSeed).TA = s.TA := rfl
@[simp] theorem State.finishSeed_TB : (s.finishSeed).TB = s.TB := rfl
@[simp] theorem State.finishSeed_OUT : (s.finishSeed).OUT = s.OUT := rfl
@[simp] theorem State.finishSeed_WACC : (s.finishSeed).WACC = s.WACC := rfl
@[simp] theorem State.finishSeed_WK : (s.finishSeed).WK = s.WK := rfl
@[simp] theorem State.finishSeed_SEEN : (s.finishSeed).SEEN = s.SEEN := rfl
@[simp] theorem State.finishSeed_ECNT : (s.finishSeed).ECNT = s.ECNT := rfl
@[simp] theorem State.finishSeed_RV : (s.finishSeed).RV = s.RV := rfl
@[simp] theorem State.finishSeed_RSP : (s.finishSeed).RSP = s.RSP := rfl
@[simp] theorem State.finishSeed_cmdIn : (s.finishSeed).cmdIn = s.cmdIn := rfl
@[simp] theorem State.finishSeed_entIn : (s.finishSeed).entIn = s.entIn := rfl
@[simp] theorem State.finishSeed_draws : (s.finishSeed).draws = s.draws := rfl

/-! ### State.seedWith -/

@[simp] theorem State.seedWith_build (key : List Byte) : (s.seedWith key).build = s.build := rfl
@[simp] theorem State.seedWith_S (key : List Byte) : (s.seedWith key).S = (ksa s.build key) := rfl
@[simp] theorem State.seedWith_I (key : List Byte) : (s.seedWith key).I = 0#8 := rfl
@[simp] theorem State.seedWith_J (key : List Byte) : (s.seedWith key).J = 0#8 := rfl
@[simp] theorem State.seedWith_SEEDED (key : List Byte) : (s.seedWith key).SEEDED = true := rfl
@[simp] theorem State.seedWith_K (key : List Byte) : (s.seedWith key).K = [] := rfl
@[simp] theorem State.seedWith_KLEN (key : List Byte) : (s.seedWith key).KLEN = 0 := rfl
@[simp] theorem State.seedWith_KTRUNC (key : List Byte) : (s.seedWith key).KTRUNC = false := rfl
@[simp] theorem State.seedWith_SH (key : List Byte) : (s.seedWith key).SH = s.SH := rfl
@[simp] theorem State.seedWith_CNT (key : List Byte) : (s.seedWith key).CNT = s.CNT := rfl
@[simp] theorem State.seedWith_LDBAD (key : List Byte) : (s.seedWith key).LDBAD = s.LDBAD := rfl
@[simp] theorem State.seedWith_LDOVF (key : List Byte) : (s.seedWith key).LDOVF = s.LDOVF := rfl
@[simp] theorem State.seedWith_ERR (key : List Byte) : (s.seedWith key).ERR = s.ERR := rfl
@[simp] theorem State.seedWith_LASTERR (key : List Byte) : (s.seedWith key).LASTERR = s.LASTERR := rfl
@[simp] theorem State.seedWith_PH (key : List Byte) : (s.seedWith key).PH = s.PH := rfl
@[simp] theorem State.seedWith_OPC (key : List Byte) : (s.seedWith key).OPC = s.OPC := rfl
@[simp] theorem State.seedWith_C (key : List Byte) : (s.seedWith key).C = s.C := rfl
@[simp] theorem State.seedWith_JA (key : List Byte) : (s.seedWith key).JA = s.JA := rfl
@[simp] theorem State.seedWith_TA (key : List Byte) : (s.seedWith key).TA = s.TA := rfl
@[simp] theorem State.seedWith_TB (key : List Byte) : (s.seedWith key).TB = s.TB := rfl
@[simp] theorem State.seedWith_OUT (key : List Byte) : (s.seedWith key).OUT = s.OUT := rfl
@[simp] theorem State.seedWith_WACC (key : List Byte) : (s.seedWith key).WACC = s.WACC := rfl
@[simp] theorem State.seedWith_WK (key : List Byte) : (s.seedWith key).WK = s.WK := rfl
@[simp] theorem State.seedWith_SEEN (key : List Byte) : (s.seedWith key).SEEN = s.SEEN := rfl
@[simp] theorem State.seedWith_ECNT (key : List Byte) : (s.seedWith key).ECNT = s.ECNT := rfl
@[simp] theorem State.seedWith_RV (key : List Byte) : (s.seedWith key).RV = s.RV := rfl
@[simp] theorem State.seedWith_RSP (key : List Byte) : (s.seedWith key).RSP = s.RSP := rfl
@[simp] theorem State.seedWith_cmdIn (key : List Byte) : (s.seedWith key).cmdIn = s.cmdIn := rfl
@[simp] theorem State.seedWith_entIn (key : List Byte) : (s.seedWith key).entIn = s.entIn := rfl
@[simp] theorem State.seedWith_draws (key : List Byte) : (s.seedWith key).draws = s.draws := rfl

/-! ### State.setCount -/

@[simp] theorem State.setCount_build (n : Nat) : (s.setCount n).build = s.build := rfl
@[simp] theorem State.setCount_S (n : Nat) : (s.setCount n).S = s.S := rfl
@[simp] theorem State.setCount_I (n : Nat) : (s.setCount n).I = s.I := rfl
@[simp] theorem State.setCount_J (n : Nat) : (s.setCount n).J = s.J := rfl
@[simp] theorem State.setCount_SEEDED (n : Nat) : (s.setCount n).SEEDED = s.SEEDED := rfl
@[simp] theorem State.setCount_K (n : Nat) : (s.setCount n).K = s.K := rfl
@[simp] theorem State.setCount_KLEN (n : Nat) : (s.setCount n).KLEN = s.KLEN := rfl
@[simp] theorem State.setCount_KTRUNC (n : Nat) : (s.setCount n).KTRUNC = s.KTRUNC := rfl
@[simp] theorem State.setCount_SH (n : Nat) : (s.setCount n).SH = s.SH := rfl
@[simp] theorem State.setCount_CNT (n : Nat) : (s.setCount n).CNT = n := rfl
@[simp] theorem State.setCount_LDBAD (n : Nat) : (s.setCount n).LDBAD = false := rfl
@[simp] theorem State.setCount_LDOVF (n : Nat) : (s.setCount n).LDOVF = false := rfl
@[simp] theorem State.setCount_ERR (n : Nat) : (s.setCount n).ERR = s.ERR := rfl
@[simp] theorem State.setCount_LASTERR (n : Nat) : (s.setCount n).LASTERR = s.LASTERR := rfl
@[simp] theorem State.setCount_PH (n : Nat) : (s.setCount n).PH = s.PH := rfl
@[simp] theorem State.setCount_OPC (n : Nat) : (s.setCount n).OPC = s.OPC := rfl
@[simp] theorem State.setCount_C (n : Nat) : (s.setCount n).C = s.C := rfl
@[simp] theorem State.setCount_JA (n : Nat) : (s.setCount n).JA = s.JA := rfl
@[simp] theorem State.setCount_TA (n : Nat) : (s.setCount n).TA = s.TA := rfl
@[simp] theorem State.setCount_TB (n : Nat) : (s.setCount n).TB = s.TB := rfl
@[simp] theorem State.setCount_OUT (n : Nat) : (s.setCount n).OUT = s.OUT := rfl
@[simp] theorem State.setCount_WACC (n : Nat) : (s.setCount n).WACC = s.WACC := rfl
@[simp] theorem State.setCount_WK (n : Nat) : (s.setCount n).WK = s.WK := rfl
@[simp] theorem State.setCount_SEEN (n : Nat) : (s.setCount n).SEEN = s.SEEN := rfl
@[simp] theorem State.setCount_ECNT (n : Nat) : (s.setCount n).ECNT = s.ECNT := rfl
@[simp] theorem State.setCount_RV (n : Nat) : (s.setCount n).RV = s.RV := rfl
@[simp] theorem State.setCount_RSP (n : Nat) : (s.setCount n).RSP = s.RSP := rfl
@[simp] theorem State.setCount_cmdIn (n : Nat) : (s.setCount n).cmdIn = s.cmdIn := rfl
@[simp] theorem State.setCount_entIn (n : Nat) : (s.setCount n).entIn = s.entIn := rfl
@[simp] theorem State.setCount_draws (n : Nat) : (s.setCount n).draws = s.draws := rfl

/-! ### State.clearError -/

@[simp] theorem State.clearError_build : (s.clearError).build = s.build := rfl
@[simp] theorem State.clearError_S : (s.clearError).S = s.S := rfl
@[simp] theorem State.clearError_I : (s.clearError).I = s.I := rfl
@[simp] theorem State.clearError_J : (s.clearError).J = s.J := rfl
@[simp] theorem State.clearError_SEEDED : (s.clearError).SEEDED = s.SEEDED := rfl
@[simp] theorem State.clearError_K : (s.clearError).K = s.K := rfl
@[simp] theorem State.clearError_KLEN : (s.clearError).KLEN = s.KLEN := rfl
@[simp] theorem State.clearError_KTRUNC : (s.clearError).KTRUNC = s.KTRUNC := rfl
@[simp] theorem State.clearError_SH : (s.clearError).SH = s.SH := rfl
@[simp] theorem State.clearError_CNT : (s.clearError).CNT = s.CNT := rfl
@[simp] theorem State.clearError_LDBAD : (s.clearError).LDBAD = s.LDBAD := rfl
@[simp] theorem State.clearError_LDOVF : (s.clearError).LDOVF = s.LDOVF := rfl
@[simp] theorem State.clearError_ERR : (s.clearError).ERR = false := rfl
@[simp] theorem State.clearError_LASTERR : (s.clearError).LASTERR = 0#4 := rfl
@[simp] theorem State.clearError_PH : (s.clearError).PH = s.PH := rfl
@[simp] theorem State.clearError_OPC : (s.clearError).OPC = s.OPC := rfl
@[simp] theorem State.clearError_C : (s.clearError).C = s.C := rfl
@[simp] theorem State.clearError_JA : (s.clearError).JA = s.JA := rfl
@[simp] theorem State.clearError_TA : (s.clearError).TA = s.TA := rfl
@[simp] theorem State.clearError_TB : (s.clearError).TB = s.TB := rfl
@[simp] theorem State.clearError_OUT : (s.clearError).OUT = s.OUT := rfl
@[simp] theorem State.clearError_WACC : (s.clearError).WACC = s.WACC := rfl
@[simp] theorem State.clearError_WK : (s.clearError).WK = s.WK := rfl
@[simp] theorem State.clearError_SEEN : (s.clearError).SEEN = s.SEEN := rfl
@[simp] theorem State.clearError_ECNT : (s.clearError).ECNT = s.ECNT := rfl
@[simp] theorem State.clearError_RV : (s.clearError).RV = s.RV := rfl
@[simp] theorem State.clearError_RSP : (s.clearError).RSP = s.RSP := rfl
@[simp] theorem State.clearError_cmdIn : (s.clearError).cmdIn = s.cmdIn := rfl
@[simp] theorem State.clearError_entIn : (s.clearError).entIn = s.entIn := rfl
@[simp] theorem State.clearError_draws : (s.clearError).draws = s.draws := rfl

/-! ### State.softReset -/

@[simp] theorem State.softReset_build : (s.softReset).build = s.build := rfl
@[simp] theorem State.softReset_S : (s.softReset).S = [] := rfl
@[simp] theorem State.softReset_I : (s.softReset).I = 0#8 := rfl
@[simp] theorem State.softReset_J : (s.softReset).J = 0#8 := rfl
@[simp] theorem State.softReset_SEEDED : (s.softReset).SEEDED = false := rfl
@[simp] theorem State.softReset_K : (s.softReset).K = [] := rfl
@[simp] theorem State.softReset_KLEN : (s.softReset).KLEN = 0 := rfl
@[simp] theorem State.softReset_KTRUNC : (s.softReset).KTRUNC = false := rfl
@[simp] theorem State.softReset_SH : (s.softReset).SH = [] := rfl
@[simp] theorem State.softReset_CNT : (s.softReset).CNT = 0 := rfl
@[simp] theorem State.softReset_LDBAD : (s.softReset).LDBAD = false := rfl
@[simp] theorem State.softReset_LDOVF : (s.softReset).LDOVF = false := rfl
@[simp] theorem State.softReset_ERR : (s.softReset).ERR = false := rfl
@[simp] theorem State.softReset_LASTERR : (s.softReset).LASTERR = 0#4 := rfl
@[simp] theorem State.softReset_PH : (s.softReset).PH = s.PH := rfl
@[simp] theorem State.softReset_OPC : (s.softReset).OPC = s.OPC := rfl
@[simp] theorem State.softReset_C : (s.softReset).C = s.C := rfl
@[simp] theorem State.softReset_JA : (s.softReset).JA = s.JA := rfl
@[simp] theorem State.softReset_TA : (s.softReset).TA = s.TA := rfl
@[simp] theorem State.softReset_TB : (s.softReset).TB = s.TB := rfl
@[simp] theorem State.softReset_OUT : (s.softReset).OUT = s.OUT := rfl
@[simp] theorem State.softReset_WACC : (s.softReset).WACC = s.WACC := rfl
@[simp] theorem State.softReset_WK : (s.softReset).WK = s.WK := rfl
@[simp] theorem State.softReset_SEEN : (s.softReset).SEEN = s.SEEN := rfl
@[simp] theorem State.softReset_ECNT : (s.softReset).ECNT = s.ECNT := rfl
@[simp] theorem State.softReset_RV : (s.softReset).RV = s.RV := rfl
@[simp] theorem State.softReset_RSP : (s.softReset).RSP = s.RSP := rfl
@[simp] theorem State.softReset_cmdIn : (s.softReset).cmdIn = s.cmdIn := rfl
@[simp] theorem State.softReset_entIn : (s.softReset).entIn = s.entIn := rfl
@[simp] theorem State.softReset_draws : (s.softReset).draws = s.draws := rfl

/-! ### State.appendKey -/

@[simp] theorem State.appendKey_build (v : Byte) : (s.appendKey v).build = s.build := rfl
@[simp] theorem State.appendKey_S (v : Byte) : (s.appendKey v).S = s.S := rfl
@[simp] theorem State.appendKey_I (v : Byte) : (s.appendKey v).I = s.I := rfl
@[simp] theorem State.appendKey_J (v : Byte) : (s.appendKey v).J = s.J := rfl
@[simp] theorem State.appendKey_SEEDED (v : Byte) : (s.appendKey v).SEEDED = s.SEEDED := rfl
@[simp] theorem State.appendKey_K (v : Byte) : (s.appendKey v).K = (put s.build .K s.K s.KLEN v) := rfl
@[simp] theorem State.appendKey_KLEN (v : Byte) : (s.appendKey v).KLEN = (s.KLEN + 1) := rfl
@[simp] theorem State.appendKey_KTRUNC (v : Byte) : (s.appendKey v).KTRUNC = s.KTRUNC := rfl
@[simp] theorem State.appendKey_SH (v : Byte) : (s.appendKey v).SH = s.SH := rfl
@[simp] theorem State.appendKey_CNT (v : Byte) : (s.appendKey v).CNT = s.CNT := rfl
@[simp] theorem State.appendKey_LDBAD (v : Byte) : (s.appendKey v).LDBAD = s.LDBAD := rfl
@[simp] theorem State.appendKey_LDOVF (v : Byte) : (s.appendKey v).LDOVF = s.LDOVF := rfl
@[simp] theorem State.appendKey_ERR (v : Byte) : (s.appendKey v).ERR = s.ERR := rfl
@[simp] theorem State.appendKey_LASTERR (v : Byte) : (s.appendKey v).LASTERR = s.LASTERR := rfl
@[simp] theorem State.appendKey_PH (v : Byte) : (s.appendKey v).PH = s.PH := rfl
@[simp] theorem State.appendKey_OPC (v : Byte) : (s.appendKey v).OPC = s.OPC := rfl
@[simp] theorem State.appendKey_C (v : Byte) : (s.appendKey v).C = s.C := rfl
@[simp] theorem State.appendKey_JA (v : Byte) : (s.appendKey v).JA = s.JA := rfl
@[simp] theorem State.appendKey_TA (v : Byte) : (s.appendKey v).TA = s.TA := rfl
@[simp] theorem State.appendKey_TB (v : Byte) : (s.appendKey v).TB = s.TB := rfl
@[simp] theorem State.appendKey_OUT (v : Byte) : (s.appendKey v).OUT = s.OUT := rfl
@[simp] theorem State.appendKey_WACC (v : Byte) : (s.appendKey v).WACC = s.WACC := rfl
@[simp] theorem State.appendKey_WK (v : Byte) : (s.appendKey v).WK = s.WK := rfl
@[simp] theorem State.appendKey_SEEN (v : Byte) : (s.appendKey v).SEEN = s.SEEN := rfl
@[simp] theorem State.appendKey_ECNT (v : Byte) : (s.appendKey v).ECNT = s.ECNT := rfl
@[simp] theorem State.appendKey_RV (v : Byte) : (s.appendKey v).RV = s.RV := rfl
@[simp] theorem State.appendKey_RSP (v : Byte) : (s.appendKey v).RSP = s.RSP := rfl
@[simp] theorem State.appendKey_cmdIn (v : Byte) : (s.appendKey v).cmdIn = s.cmdIn := rfl
@[simp] theorem State.appendKey_entIn (v : Byte) : (s.appendKey v).entIn = s.entIn := rfl
@[simp] theorem State.appendKey_draws (v : Byte) : (s.appendKey v).draws = s.draws := rfl

/-! ### State.appendSymbol -/

@[simp] theorem State.appendSymbol_build (v : BitVec 12) : (s.appendSymbol v).build = s.build := rfl
@[simp] theorem State.appendSymbol_S (v : BitVec 12) : (s.appendSymbol v).S = s.S := rfl
@[simp] theorem State.appendSymbol_I (v : BitVec 12) : (s.appendSymbol v).I = s.I := rfl
@[simp] theorem State.appendSymbol_J (v : BitVec 12) : (s.appendSymbol v).J = s.J := rfl
@[simp] theorem State.appendSymbol_SEEDED (v : BitVec 12) : (s.appendSymbol v).SEEDED = s.SEEDED := rfl
@[simp] theorem State.appendSymbol_K (v : BitVec 12) : (s.appendSymbol v).K = s.K := rfl
@[simp] theorem State.appendSymbol_KLEN (v : BitVec 12) : (s.appendSymbol v).KLEN = s.KLEN := rfl
@[simp] theorem State.appendSymbol_KTRUNC (v : BitVec 12) : (s.appendSymbol v).KTRUNC = s.KTRUNC := rfl
@[simp] theorem State.appendSymbol_SH (v : BitVec 12) : (s.appendSymbol v).SH = (put s.build .SH s.SH s.CNT (valueSym s.build v)) := rfl
@[simp] theorem State.appendSymbol_CNT (v : BitVec 12) : (s.appendSymbol v).CNT = (s.CNT + 1) := rfl
@[simp] theorem State.appendSymbol_LDBAD (v : BitVec 12) : (s.appendSymbol v).LDBAD = (s.LDBAD || valueOutOfRange s.build v) := rfl
@[simp] theorem State.appendSymbol_LDOVF (v : BitVec 12) : (s.appendSymbol v).LDOVF = s.LDOVF := rfl
@[simp] theorem State.appendSymbol_ERR (v : BitVec 12) : (s.appendSymbol v).ERR = s.ERR := rfl
@[simp] theorem State.appendSymbol_LASTERR (v : BitVec 12) : (s.appendSymbol v).LASTERR = s.LASTERR := rfl
@[simp] theorem State.appendSymbol_PH (v : BitVec 12) : (s.appendSymbol v).PH = s.PH := rfl
@[simp] theorem State.appendSymbol_OPC (v : BitVec 12) : (s.appendSymbol v).OPC = s.OPC := rfl
@[simp] theorem State.appendSymbol_C (v : BitVec 12) : (s.appendSymbol v).C = s.C := rfl
@[simp] theorem State.appendSymbol_JA (v : BitVec 12) : (s.appendSymbol v).JA = s.JA := rfl
@[simp] theorem State.appendSymbol_TA (v : BitVec 12) : (s.appendSymbol v).TA = s.TA := rfl
@[simp] theorem State.appendSymbol_TB (v : BitVec 12) : (s.appendSymbol v).TB = s.TB := rfl
@[simp] theorem State.appendSymbol_OUT (v : BitVec 12) : (s.appendSymbol v).OUT = s.OUT := rfl
@[simp] theorem State.appendSymbol_WACC (v : BitVec 12) : (s.appendSymbol v).WACC = s.WACC := rfl
@[simp] theorem State.appendSymbol_WK (v : BitVec 12) : (s.appendSymbol v).WK = s.WK := rfl
@[simp] theorem State.appendSymbol_SEEN (v : BitVec 12) : (s.appendSymbol v).SEEN = s.SEEN := rfl
@[simp] theorem State.appendSymbol_ECNT (v : BitVec 12) : (s.appendSymbol v).ECNT = s.ECNT := rfl
@[simp] theorem State.appendSymbol_RV (v : BitVec 12) : (s.appendSymbol v).RV = s.RV := rfl
@[simp] theorem State.appendSymbol_RSP (v : BitVec 12) : (s.appendSymbol v).RSP = s.RSP := rfl
@[simp] theorem State.appendSymbol_cmdIn (v : BitVec 12) : (s.appendSymbol v).cmdIn = s.cmdIn := rfl
@[simp] theorem State.appendSymbol_entIn (v : BitVec 12) : (s.appendSymbol v).entIn = s.entIn := rfl
@[simp] theorem State.appendSymbol_draws (v : BitVec 12) : (s.appendSymbol v).draws = s.draws := rfl

/-! ### State.captureImage -/

@[simp] theorem State.captureImage_build : (s.captureImage).build = s.build := rfl
@[simp] theorem State.captureImage_S : (s.captureImage).S = s.S := rfl
@[simp] theorem State.captureImage_I : (s.captureImage).I = s.I := rfl
@[simp] theorem State.captureImage_J : (s.captureImage).J = s.J := rfl
@[simp] theorem State.captureImage_SEEDED : (s.captureImage).SEEDED = s.SEEDED := rfl
@[simp] theorem State.captureImage_K : (s.captureImage).K = s.K := rfl
@[simp] theorem State.captureImage_KLEN : (s.captureImage).KLEN = s.KLEN := rfl
@[simp] theorem State.captureImage_KTRUNC : (s.captureImage).KTRUNC = s.KTRUNC := rfl
@[simp] theorem State.captureImage_SH : (s.captureImage).SH = (fill s.build .SH s.SH s.build.IMG_LEN s.imageAt) := rfl
@[simp] theorem State.captureImage_CNT : (s.captureImage).CNT = s.build.IMG_LEN := rfl
@[simp] theorem State.captureImage_LDBAD : (s.captureImage).LDBAD = false := rfl
@[simp] theorem State.captureImage_LDOVF : (s.captureImage).LDOVF = false := rfl
@[simp] theorem State.captureImage_ERR : (s.captureImage).ERR = s.ERR := rfl
@[simp] theorem State.captureImage_LASTERR : (s.captureImage).LASTERR = s.LASTERR := rfl
@[simp] theorem State.captureImage_PH : (s.captureImage).PH = s.PH := rfl
@[simp] theorem State.captureImage_OPC : (s.captureImage).OPC = s.OPC := rfl
@[simp] theorem State.captureImage_C : (s.captureImage).C = s.C := rfl
@[simp] theorem State.captureImage_JA : (s.captureImage).JA = s.JA := rfl
@[simp] theorem State.captureImage_TA : (s.captureImage).TA = s.TA := rfl
@[simp] theorem State.captureImage_TB : (s.captureImage).TB = s.TB := rfl
@[simp] theorem State.captureImage_OUT : (s.captureImage).OUT = s.OUT := rfl
@[simp] theorem State.captureImage_WACC : (s.captureImage).WACC = s.WACC := rfl
@[simp] theorem State.captureImage_WK : (s.captureImage).WK = s.WK := rfl
@[simp] theorem State.captureImage_SEEN : (s.captureImage).SEEN = s.SEEN := rfl
@[simp] theorem State.captureImage_ECNT : (s.captureImage).ECNT = s.ECNT := rfl
@[simp] theorem State.captureImage_RV : (s.captureImage).RV = s.RV := rfl
@[simp] theorem State.captureImage_RSP : (s.captureImage).RSP = s.RSP := rfl
@[simp] theorem State.captureImage_cmdIn : (s.captureImage).cmdIn = s.cmdIn := rfl
@[simp] theorem State.captureImage_entIn : (s.captureImage).entIn = s.entIn := rfl
@[simp] theorem State.captureImage_draws : (s.captureImage).draws = s.draws := rfl

/-! ### State.installImage -/

@[simp] theorem State.installImage_build : (s.installImage).build = s.build := rfl
@[simp] theorem State.installImage_S : (s.installImage).S = (fill s.build .S s.S s.build.N fun k => elem s.build .SH s.SH (k + 2)) := rfl
@[simp] theorem State.installImage_I : (s.installImage).I = (elem s.build .SH s.SH 0) := rfl
@[simp] theorem State.installImage_J : (s.installImage).J = (elem s.build .SH s.SH 1) := rfl
@[simp] theorem State.installImage_SEEDED : (s.installImage).SEEDED = true := rfl
@[simp] theorem State.installImage_K : (s.installImage).K = s.K := rfl
@[simp] theorem State.installImage_KLEN : (s.installImage).KLEN = s.KLEN := rfl
@[simp] theorem State.installImage_KTRUNC : (s.installImage).KTRUNC = s.KTRUNC := rfl
@[simp] theorem State.installImage_SH : (s.installImage).SH = s.SH := rfl
@[simp] theorem State.installImage_CNT : (s.installImage).CNT = s.CNT := rfl
@[simp] theorem State.installImage_LDBAD : (s.installImage).LDBAD = s.LDBAD := rfl
@[simp] theorem State.installImage_LDOVF : (s.installImage).LDOVF = s.LDOVF := rfl
@[simp] theorem State.installImage_ERR : (s.installImage).ERR = s.ERR := rfl
@[simp] theorem State.installImage_LASTERR : (s.installImage).LASTERR = s.LASTERR := rfl
@[simp] theorem State.installImage_PH : (s.installImage).PH = s.PH := rfl
@[simp] theorem State.installImage_OPC : (s.installImage).OPC = s.OPC := rfl
@[simp] theorem State.installImage_C : (s.installImage).C = s.C := rfl
@[simp] theorem State.installImage_JA : (s.installImage).JA = s.JA := rfl
@[simp] theorem State.installImage_TA : (s.installImage).TA = s.TA := rfl
@[simp] theorem State.installImage_TB : (s.installImage).TB = s.TB := rfl
@[simp] theorem State.installImage_OUT : (s.installImage).OUT = s.OUT := rfl
@[simp] theorem State.installImage_WACC : (s.installImage).WACC = s.WACC := rfl
@[simp] theorem State.installImage_WK : (s.installImage).WK = s.WK := rfl
@[simp] theorem State.installImage_SEEN : (s.installImage).SEEN = s.SEEN := rfl
@[simp] theorem State.installImage_ECNT : (s.installImage).ECNT = s.ECNT := rfl
@[simp] theorem State.installImage_RV : (s.installImage).RV = s.RV := rfl
@[simp] theorem State.installImage_RSP : (s.installImage).RSP = s.RSP := rfl
@[simp] theorem State.installImage_cmdIn : (s.installImage).cmdIn = s.cmdIn := rfl
@[simp] theorem State.installImage_entIn : (s.installImage).entIn = s.entIn := rfl
@[simp] theorem State.installImage_draws : (s.installImage).draws = s.draws := rfl

end Sys2Proof.Machine
end

