-- ==== Sys2Proof/Laws/Engines.lean ====
section
/-!
SUPPORT. What the key schedule, the step and the entropy draw do to the storage they touch.
-/

namespace Sys2Proof.Machine

/-! ### The key schedule -/

theorem elem_identityTable (b : Build) (a : Nat) (h : a < b.N) : (elem b .S (identityTable b) a).toNat = a := by
  have := Build.N_le b
  rw [identityTable, elem_fill, if_pos h]
  simp only [narrow, low_toNat, BitVec.toNat_ofNat]
  rw [Nat.mod_eq_of_lt (by omega : a < 2 ^ 8), Nat.mod_eq_of_lt h]

theorem memoryOk_identityTable (b : Build) : MemoryOk b .S (identityTable b) :=
  (memoryOk_nil b .S).fill (le_refl _) _

theorem written_identityTable (b : Build) : Written (identityTable b) b.N := written_fill b .S [] b.N _

/-- The mixing loop keeps whatever one exchange of two table entries keeps. -/
theorem mix_induction {b : Build} {key : List Byte} {P : Memory → Prop}
    (step : ∀ T x y, x < b.N → y < b.N → P T → P (swap b .S T x y)) :
    ∀ n i j T, i + n ≤ b.N → P T → P (mix b key n i j T) := by
  intro n
  induction n with
  | zero => intro i j T _ h; exact h
  | succ n ih =>
    intro i j T hi h
    exact ih _ _ _ (by omega) (step T i _ (by omega) (low_lt b _) h)

/-- `KSA` keeps whatever holds of the identity table and is kept by one exchange. -/
theorem ksa_induction {b : Build} {P : Memory → Prop} (start : P (identityTable b))
    (step : ∀ T x y, x < b.N → y < b.N → P T → P (swap b .S T x y)) (key : List Byte) : P (ksa b key) :=
  mix_induction step _ _ _ _ (by have := Build.N_pos b; omega) start

theorem memoryOk_ksa (b : Build) (key : List Byte) : MemoryOk b .S (ksa b key) :=
  ksa_induction (P := fun T => MemoryOk b .S T) (memoryOk_identityTable b) (fun _ _ _ hx hy h => h.swap hx hy) key

theorem written_ksa (b : Build) (key : List Byte) : Written (ksa b key) b.N :=
  ksa_induction (P := fun T => Written T b.N) (written_identityTable b) (fun _ _ _ _ _ h => h.swap b .S _ _) key

/-! ### The step -/

theorem nextI_toNat (b : Build) (l : Live) : (nextI b l).toNat = (l.I.toNat + 1) % b.N := low_toNat b _

theorem nextJ_toNat (b : Build) (l : Live) :
    (nextJ b l).toNat = (l.J.toNat + (elem b .S l.S (nextI b l).toNat).toNat) % b.N := low_toNat b _

theorem elem_nextS (b : Build) (l : Live) (c : Nat) :
    elem b .S (nextS b l) c =
      if c = (nextI b l).toNat then elem b .S l.S (nextJ b l).toNat
      else if c = (nextJ b l).toNat then elem b .S l.S (nextI b l).toNat
      else elem b .S l.S c := elem_swap b .S l.S _ _ c

/-- A run of steps keeps whatever one step keeps. -/
theorem stepMany_induction {b : Build} {P : Live → Prop} (step : ∀ l, P l → P (stepLive b l)) :
    ∀ n l e, P l → P (stepMany b n l e).1 := by
  intro n
  induction n with
  | zero => intro l e h; exact h
  | succ n ih => intro l e h; exact ih _ _ (step l h)

/-! ### The entropy draw -/

/-- A draw takes the next named byte, or a free value, and touches nothing but the entropy port. -/
theorem drawByte_spec (s : State) :
    s.drawByte.2 = { s with entIn := s.entIn.tail, draws := s.drawByte.2.draws } ∧
      (∀ v rest, s.entIn = v :: rest → s.drawByte.1 = v ∧ s.drawByte.2.draws = s.draws) := by
  cases h : s.entIn with
  | nil => simp [State.drawByte, h]
  | cons v rest => simp [State.drawByte, h]

/-- `n` draws give `n` bytes, the named ones first, and touch nothing but the entropy port. -/
theorem drawBytes_spec (n : Nat) : ∀ s : State,
    (State.drawBytes n s).1.length = n ∧
      (State.drawBytes n s).2 = { s with entIn := s.entIn.drop n, draws := (State.drawBytes n s).2.draws } ∧
      (∀ k, k < n → k < s.entIn.length → (State.drawBytes n s).1[k]? = s.entIn[k]?) := by
  induction n with
  | zero => intro s; exact ⟨rfl, by simp [State.drawBytes], fun k hk => absurd hk (Nat.not_lt_zero k)⟩
  | succ n ih =>
    intro s
    obtain ⟨hl, hs, hk⟩ := ih s.drawByte.2
    obtain ⟨hd, hv⟩ := drawByte_spec s
    refine ⟨by simp [State.drawBytes, hl], ?_, fun k hk1 hk2 => ?_⟩
    · simp only [State.drawBytes]
      rw [hs, hd]
      simp [List.drop_tail]
    · cases he : s.entIn with
      | nil => simp [he] at hk2
      | cons v rest =>
        cases k with
        | zero => simp [State.drawBytes, (hv v rest he).1]
        | succ k =>
          have htl : s.drawByte.2.entIn = rest := by rw [hd]; simp [he]
          have := hk k (by omega) (by rw [htl]; simp [he] at hk2; omega)
          simpa [State.drawBytes, htl] using this

end Sys2Proof.Machine
end

