-- ==== Sys2Proof/Laws/Exec.lean ====
section
/-!
SUPPORT. What each command does, once per command: the next state it answers on each of its branches. CORE never stops, so
every branch is a next state.
-/

namespace Sys2Proof.Machine

/-! ### How a command ends -/

theorem respond_eq (d : Data) (s : State) : respond d s = .next (s.answered .ok d) := rfl

theorem raise_eq (c : Code) (d : Data) (s : State) (h : c ≠ .ok) : raise c d s = .next (s.errored c d) := by
  simp [raise, State.finish, State.errored, State.answered, h]

theorem finish_ok_eq (s : State) (d : Data) : s.finish .ok d = s.answered .ok d := rfl

theorem rspCode_rspWord (c : Code) (d : Data) : rspCode (rspWord c d) = c.bits := by
  simp only [rspCode, rspWord]
  exact BitVec.extractLsb'_append_eq_left

theorem rspData_rspWord (c : Code) (d : Data) : rspData (rspWord c d) = d := by
  simp only [rspData, rspWord]
  exact BitVec.extractLsb'_append_eq_right

theorem Code.bits_eq_zero_iff (c : Code) : c.bits = 0#4 ↔ c = .ok := by
  cases c <;> decide

/-! ### The commands -/

theorem exec_nop (s : State) : exec .nop s = .next (s.answered .ok 0#32) := rfl

theorem exec_init (s : State) : exec .init s = .next (s.softReset.answered .ok 0#32) := rfl

theorem exec_kclr (s : State) : exec .kclr s = .next (s.clearKey.answered .ok 0#32) := rfl

theorem exec_keyb_room (b : BitVec 8) (s : State) (h : s.KLEN < s.build.KMAX) :
    exec (.keyb b) s = .next ((s.appendKey b).answered .ok 0#32) := by
  simp only [exec, execKeyb, if_pos h, respond_eq]

theorem exec_keyb_full (b : BitVec 8) (s : State) (h : ¬ s.KLEN < s.build.KMAX) :
    exec (.keyb b) s = .next (State.answered { s with KTRUNC := true } .ok 0#32) := by
  simp only [exec, execKeyb, if_neg h, respond_eq]

theorem exec_seed_empty (s : State) (h : s.KLEN = 0) : exec .seed s = .next (s.errored .eSeed 0#32) := by
  simp only [exec, execSeed, if_pos h]
  exact raise_eq _ _ _ (by decide)

theorem exec_seed_key (s : State) (h : s.KLEN ≠ 0) : exec .seed s = .next ((s.seedWith s.key).answered .ok 0#32) := by
  simp only [exec, execSeed, if_neg h, respond_eq]

theorem exec_aseed (s : State) :
    exec .aseed s = .next (State.answered
      ((State.drawBytes s.build.entLen s.clearKey).2.seedWith (State.drawBytes s.build.entLen s.clearKey).1) .ok 0#32) := rfl

theorem exec_next_unseeded (s : State) (h : s.SEEDED = false) : exec .next s = .next (s.errored .eUnseeded 0#32) := by
  simp only [exec, execNext, h]
  exact raise_eq _ _ _ (by decide)

theorem exec_next_seeded (s : State) (h : s.SEEDED = true) :
    exec .next s =
      .next ((s.setLive (stepLive s.build s.live)).answered .ok (zext32 (stepOut s.build s.live))) := by
  simp only [exec, execNext, h, if_true, respond_eq]

theorem exec_word_unseeded (s : State) (h : s.SEEDED = false) : exec .word s = .next (s.errored .eUnseeded 0#32) := by
  simp only [exec, execWord, h]
  exact raise_eq _ _ _ (by decide)

theorem exec_word_seeded (s : State) (h : s.SEEDED = true) :
    exec .word s =
      .next ((s.setLive (stepMany s.build s.build.WORD_STEPS s.live 0#32).1).answered .ok
        (stepMany s.build s.build.WORD_STEPS s.live 0#32).2) := by
  simp only [exec, execWord, h, if_true, respond_eq]

theorem exec_snap_unseeded (s : State) (h : s.SEEDED = false) : exec .snap s = .next (s.errored .eUnseeded 0#32) := by
  simp only [exec, execSnap, h]
  exact raise_eq _ _ _ (by decide)

theorem exec_snap_seeded (s : State) (h : s.SEEDED = true) :
    exec .snap s = .next (s.captureImage.answered .ok 0#32) := by
  simp only [exec, execSnap, h, if_true, respond_eq]

theorem exec_shrd_valid (a : BitVec 12) (s : State) (h : s.shadowIndexValid a = true) :
    exec (.shrd a) s = .next (s.answered .ok (zext32 (elem s.build .SH s.SH a.toNat))) := by
  simp only [exec, execShrd, h, if_true, respond_eq]

theorem exec_shrd_invalid (a : BitVec 12) (s : State) (h : s.shadowIndexValid a = false) :
    exec (.shrd a) s = .next (s.errored .eIndex 0#32) := by
  simp only [exec, execShrd, h]
  exact raise_eq _ _ _ (by decide)

theorem exec_ldbeg (s : State) : exec .ldbeg s = .next ((s.setCount 0).answered .ok 0#32) := rfl

theorem exec_ldsym_room (v : BitVec 12) (s : State) (h : s.CNT < s.build.IMG_LEN) :
    exec (.ldsym v) s = .next ((s.appendSymbol v).answered .ok 0#32) := by
  simp only [exec, execLdsym, if_pos h, respond_eq]

theorem exec_ldsym_full (v : BitVec 12) (s : State) (h : ¬ s.CNT < s.build.IMG_LEN) :
    exec (.ldsym v) s = .next (State.answered { s with LDOVF := true } .ok 0#32) := by
  simp only [exec, execLdsym, if_neg h, respond_eq]

theorem exec_rstr_invalid (s : State) (r : Data) (h : s.restoreReason = some r) :
    exec .rstr s = .next (s.errored .eState r) := by
  simp only [exec, execRstr, h]
  exact raise_eq _ _ _ (by decide)

theorem exec_rstr_valid (s : State) (h : s.restoreReason = none) :
    exec .rstr s = .next (s.installImage.answered .ok 0#32) := by
  simp only [exec, execRstr, h, respond_eq]

theorem exec_rdcsr_valid (n : BitVec 12) (s : State) (h : n.toNat ≤ 3) :
    exec (.rdcsr n) s = .next (s.answered .ok (s.csr n)) := by
  simp only [exec, execRdcsr, csrIndexValid, decide_eq_true h, if_true, respond_eq]

theorem exec_rdcsr_invalid (n : BitVec 12) (s : State) (h : ¬ n.toNat ≤ 3) :
    exec (.rdcsr n) s = .next (s.errored .eIndex 0#32) := by
  simp only [exec, execRdcsr, csrIndexValid, decide_eq_false h]
  exact raise_eq _ _ _ (by decide)

theorem exec_clre (s : State) : exec .clre s = .next (s.clearError.answered .ok 0#32) := rfl

/-- Every way a command can end: OK with its own effect, or an error with none. -/
inductive Ended (s t : State) : Prop where
  | ok (u : State) (d : Data) (h : t = u.answered .ok d)
  | error (c : Code) (d : Data) (hc : c ≠ .ok) (h : t = s.errored c d)

/-- Every command answers a next state, with its response in the slot. -/
theorem exec_answers (i : Instr) (s : State) : ∃ t, exec i s = .next t ∧ Ended s t := by
  cases i with
  | nop => exact ⟨_, exec_nop s, .ok _ _ rfl⟩
  | init => exact ⟨_, exec_init s, .ok _ _ rfl⟩
  | kclr => exact ⟨_, exec_kclr s, .ok _ _ rfl⟩
  | keyb b =>
    by_cases h : s.KLEN < s.build.KMAX
    · exact ⟨_, exec_keyb_room b s h, .ok _ _ rfl⟩
    · exact ⟨_, exec_keyb_full b s h, .ok _ _ rfl⟩
  | seed =>
    by_cases h : s.KLEN = 0
    · exact ⟨_, exec_seed_empty s h, .error _ _ (by decide) rfl⟩
    · exact ⟨_, exec_seed_key s h, .ok _ _ rfl⟩
  | aseed => exact ⟨_, exec_aseed s, .ok _ _ rfl⟩
  | next =>
    cases h : s.SEEDED with
    | false => exact ⟨_, exec_next_unseeded s h, .error _ _ (by decide) rfl⟩
    | true => exact ⟨_, exec_next_seeded s h, .ok _ _ rfl⟩
  | word =>
    cases h : s.SEEDED with
    | false => exact ⟨_, exec_word_unseeded s h, .error _ _ (by decide) rfl⟩
    | true => exact ⟨_, exec_word_seeded s h, .ok _ _ rfl⟩
  | snap =>
    cases h : s.SEEDED with
    | false => exact ⟨_, exec_snap_unseeded s h, .error _ _ (by decide) rfl⟩
    | true => exact ⟨_, exec_snap_seeded s h, .ok _ _ rfl⟩
  | shrd a =>
    cases h : s.shadowIndexValid a with
    | false => exact ⟨_, exec_shrd_invalid a s h, .error _ _ (by decide) rfl⟩
    | true => exact ⟨_, exec_shrd_valid a s h, .ok _ _ rfl⟩
  | ldbeg => exact ⟨_, exec_ldbeg s, .ok _ _ rfl⟩
  | ldsym v =>
    by_cases h : s.CNT < s.build.IMG_LEN
    · exact ⟨_, exec_ldsym_room v s h, .ok _ _ rfl⟩
    · exact ⟨_, exec_ldsym_full v s h, .ok _ _ rfl⟩
  | rstr =>
    cases h : s.restoreReason with
    | none => exact ⟨_, exec_rstr_valid s h, .ok _ _ rfl⟩
    | some r => exact ⟨_, exec_rstr_invalid s r h, .error _ _ (by decide) rfl⟩
  | rdcsr n =>
    by_cases h : n.toNat ≤ 3
    · exact ⟨_, exec_rdcsr_valid n s h, .ok _ _ rfl⟩
    · exact ⟨_, exec_rdcsr_invalid n s h, .error _ _ (by decide) rfl⟩
  | clre => exact ⟨_, exec_clre s, .ok _ _ rfl⟩

end Sys2Proof.Machine
end

