-- ==== Sys2Proof/Laws/Step.lean ====
section
/-!
SUPPORT. What one step can do, and what one micro-step can do.
-/

namespace Sys2Proof.Machine

/-- If a step answers a next state, then a command in flight took a micro-step, or the host took a response, or nothing was
offered, or a word was accepted and carried out. -/
theorem step_cases {s t : State} (h : step s = .next t) :
    (s.PH ≠ .idle ∧ advance s = .next t) ∨
    (s.PH = .idle ∧ s.RV = true ∧ t = s.takeResponse) ∨
    (s.PH = .idle ∧ s.RV = false ∧ s.cmdIn = [] ∧ t = s) ∨
    (s.PH = .idle ∧ s.RV = false ∧ ∃ w rest, s.cmdIn = w :: rest ∧ runWord w (s.acceptWord w) = .next t) := by
  unfold step at h
  split at h
  · next hp => exact .inl ⟨hp, h⟩
  · next hp =>
    have hp : s.PH = .idle := not_not.mp hp
    split at h
    · next hr => cases h; exact .inr (.inl ⟨hp, hr, rfl⟩)
    · next hr =>
      have hr : s.RV = false := by simpa using hr
      split at h
      · next hc => cases h; exact .inr (.inr (.inl ⟨hp, hr, hc, rfl⟩))
      · next w rest hc => exact .inr (.inr (.inr ⟨hp, hr, w, rest, hc, h⟩))

/-- An accepted word is a command or is answered `E_ILLEGAL`. -/
theorem runWord_cases (w : CmdWord) (s : State) :
    (∃ i, decode w = .ok i ∧ runWord w s = exec i s) ∨
    (∃ e, decode w = .error e ∧ runWord w s = .next (s.errored .eIllegal 0#32)) := by
  cases h : decode w with
  | ok i => exact .inl ⟨i, rfl, by simp [runWord, h]⟩
  | error e => exact .inr ⟨e, rfl, by simp only [runWord, h, rejectWord]; exact raise_eq _ _ _ (by decide)⟩

/-- A micro-step waits in `IDLE`, takes the phase's action, or stops in a phase that does not serve the command in flight. -/
theorem microStep_cases (ent : Option Byte) (s : State) :
    (s.PH = .idle ∧ microStep ent s = .next s) ∨
    (s.PH ≠ .idle ∧ s.phaseServed = true ∧ microStep ent s = .next (s.microNext ent)) ∨
    (s.PH ≠ .idle ∧ s.phaseServed = false ∧ microStep ent s = .fault .strayPhase) := by
  unfold microStep
  by_cases hp : s.PH = .idle
  · exact .inl ⟨hp, by simp [hp]⟩
  · cases hs : s.phaseServed
    · exact .inr (.inr ⟨hp, rfl, by simp [hp]⟩)
    · exact .inr (.inl ⟨hp, rfl, by simp [hp]⟩)

/-- A run of micro-steps splits where one likes. -/
theorem advanceMany_add {m n : Nat} {s t : State} (h : advanceMany m s = .next t) :
    advanceMany (m + n) s = advanceMany n t := by
  induction m generalizing s with
  | zero => cases h; simp
  | succ m ih =>
    rw [Nat.succ_add]
    simp only [advanceMany] at h ⊢
    cases ha : advance s with
    | next u => rw [ha] at h; simp only at h ⊢; exact ih h
    | fault f => rw [ha] at h; cases h
    | refused r => rw [ha] at h; cases h

/-- A run of commands splits where one likes. -/
theorem runCommands_append {is js : List Instr} {s t : State} (h : runCommands is s = .next t) :
    runCommands (is ++ js) s = runCommands js t := by
  induction is generalizing s with
  | nil => cases h; rfl
  | cons i is ih =>
    simp only [List.cons_append, runCommands] at h ⊢
    cases he : exec i s with
    | next u => rw [he] at h; exact ih h
    | fault f => rw [he] at h; cases h
    | refused r => rw [he] at h; cases h

/-- A run of commands always answers. -/
theorem runCommands_answers (is : List Instr) : ∀ s, ∃ t, runCommands is s = .next t := by
  induction is with
  | nil => exact fun s => ⟨s, rfl⟩
  | cons i is ih =>
    intro s
    obtain ⟨u, hu, -⟩ := exec_answers i s
    obtain ⟨t, ht⟩ := ih u.takeResponse
    exact ⟨t, by simp only [runCommands, hu, ht]⟩

/-- The storage arrays of the reset state are canonical. -/
theorem memoryOk_reset (b : Build) (sp : Space) : MemoryOk b sp ((State.resetOf b).array sp) := by
  cases sp <;> exact memoryOk_nil b _

end Sys2Proof.Machine
end

