-- ==== Sys2Proof/Laws/Host.lean ====
section
/-!
SUPPORT. What the calls of the host driver do: which responses a sequence of commands draws and the state it leaves, and the
two ways a call can go.
-/

namespace Sys2Proof.Machine

@[simp] theorem issue_nil (s : State) : issue [] s = .next ([], s) := rfl

/-- One command first, then the rest from the state with its response taken. -/
theorem issue_cons {i : Instr} {is : List Instr} {s t u : State} {rs : List RspWord} (h : exec i s = .next t)
    (hs : issue is t.takeResponse = .next (rs, u)) : issue (i :: is) s = .next (t.RSP :: rs, u) := by
  simp [issue, h, hs]

theorem issue_single {i : Instr} {s t : State} (h : exec i s = .next t) :
    issue [i] s = .next ([t.RSP], t.takeResponse) := issue_cons h rfl

/-- A sequence of commands never stops, draws one response each, and leaves the state `runCommands` leaves. -/
theorem issue_answers (is : List Instr) :
    ∀ s, ∃ rs t, issue is s = .next (rs, t) ∧ rs.length = is.length ∧ runCommands is s = .next t := by
  induction is with
  | nil => exact fun s => ⟨[], s, rfl, rfl, rfl⟩
  | cons i is ih =>
    intro s
    obtain ⟨t, ht, -⟩ := exec_answers i s
    obtain ⟨rs, u, hu, hl, hr⟩ := ih t.takeResponse
    exact ⟨t.RSP :: rs, u, issue_cons ht hu, by simp [hl], by simp [runCommands, ht, hr]⟩

/-- Responses and state of a sequence in two parts. -/
theorem issue_append {is js : List Instr} {s t u : State} {rs qs : List RspWord} (h : issue is s = .next (rs, t))
    (h' : issue js t = .next (qs, u)) : issue (is ++ js) s = .next (rs ++ qs, u) := by
  induction is generalizing s rs with
  | nil =>
    cases h
    exact h'
  | cons i is ih =>
    obtain ⟨v, hv, -⟩ := exec_answers i s
    obtain ⟨ps, w, hw, -, -⟩ := issue_answers is v.takeResponse
    rw [issue_cons hv hw] at h
    cases h
    exact issue_cons hv (ih hw)

/-- A call that fails its checks sends nothing. -/
@[simp] theorem hostCall_error {α : Type} (e : HostError) (value : List Data → α) (s : State) :
    hostCall (.error e) value s = .next (.error (.host e), s) := rfl

/-- A call that passes them returns what its responses make. -/
theorem hostCall_ok {α : Type} {is : List Instr} {rs : List RspWord} {s t : State} (value : List Data → α)
    (h : issue is s = .next (rs, t)) : hostCall (.ok is) value s = .next (callResult value rs, t) := by
  simp [hostCall, h]

/-- With every response OK the result is the value of the data fields. -/
theorem callResult_ok {α : Type} {rs : List RspWord} (value : List Data → α) (h : ∀ r ∈ rs, rspCode r = 0#4) :
    callResult value rs = .ok (value (rs.map rspData)) := by
  have : (rs.find? fun r => decide (rspCode r ≠ 0#4)) = none := by
    rw [List.find?_eq_none]
    intro r hr
    simp [h r hr]
  simp only [callResult, this]

/-- An error in the first response is the call's. -/
theorem callResult_error {α : Type} {r : RspWord} {rs : List RspWord} (value : List Data → α) (h : rspCode r ≠ 0#4) :
    callResult value (r :: rs) = .error (CallError.ofBits (rspCode r)) := by
  simp [callResult, h]

end Sys2Proof.Machine
end

