-- ==== Sys2Proof/Laws/PerInstr.lean ====
section
/-!
SUPPORT. Statements about every command as syntax, one lemma per constructor. Family `Assembles`: the script line of a
command is well formed, and the assembler gives the word the encoder gives (30_encoding.md R90, R91, R97, R103).
-/

namespace Sys2Proof.Laws.Assembles

/-- The script line of `i` is well formed and assembles to the encoding of `i`. -/
def Statement (i : Instr) : Prop := i.wellFormed = true ∧ assemble i.toScript = some (encode i)

/-- An operand of 12 bits below its opcode: `opcode << 12 | operand` as a number. -/
theorem encodeWith_eq (op : BitVec 4) (x : BitVec 12) : encodeWith op x = BitVec.ofNat 16 (op.toNat * 4096 + x.toNat) := by
  apply BitVec.eq_of_toNat_eq
  have hop := op.isLt
  have hx := x.isLt
  rw [encodeWith, BitVec.toNat_append, BitVec.toNat_ofNat, Nat.shiftLeft_eq, Nat.mul_comm op.toNat,
    ← Nat.two_pow_add_eq_or_of_lt hx]
  omega

/-- A well-formed script line whose opcode and operand are those of the encoding assembles to it. -/
theorem assemble_eq {c : ScriptCmd} {op : BitVec 4} {x : BitVec 12} (hw : c.wellFormed = true)
    (hop : c.mnemonic.opcode = op.toNat) (hx : c.operand.getD 0 = x.toNat) :
    c.wellFormed = true ∧ assemble c = some (encodeWith op x) := by
  refine ⟨hw, ?_⟩
  rw [assemble, if_pos hw, encodeWith_eq, hop, hx]

theorem nop : Statement .nop := assemble_eq rfl rfl rfl
theorem init : Statement .init := assemble_eq rfl rfl rfl
theorem kclr : Statement .kclr := assemble_eq rfl rfl rfl
theorem seed : Statement .seed := assemble_eq rfl rfl rfl
theorem aseed : Statement .aseed := assemble_eq rfl rfl rfl
theorem next : Statement .next := assemble_eq rfl rfl rfl
theorem word : Statement .word := assemble_eq rfl rfl rfl
theorem snap : Statement .snap := assemble_eq rfl rfl rfl
theorem ldbeg : Statement .ldbeg := assemble_eq rfl rfl rfl
theorem rstr : Statement .rstr := assemble_eq rfl rfl rfl
theorem clre : Statement .clre := assemble_eq rfl rfl rfl

theorem keyb (b : BitVec 8) : Statement (.keyb b) :=
  assemble_eq (decide_eq_true b.isLt) rfl (by simp [Instr.toScript]; omega)

theorem shrd (a : BitVec 12) : Statement (.shrd a) := assemble_eq (decide_eq_true a.isLt) rfl rfl

theorem ldsym (v : BitVec 12) : Statement (.ldsym v) := assemble_eq (decide_eq_true v.isLt) rfl rfl

theorem rdcsr (n : BitVec 12) : Statement (.rdcsr n) := assemble_eq (decide_eq_true n.isLt) rfl rfl

end Sys2Proof.Laws.Assembles
end

