-- ==== Sys2Proof/Tests/Slice0.lean ====
section
/-!
SUPPORT. Tests of the model against values the spec gives (95_test_vectors.md, 30_encoding.md R105), each about one word, one
command or one line, and for every statement with hypotheses a named theorem showing that they can be met.
-/

namespace Sys2Proof.Tests

open Sys2Proof Sys2Proof.Machine

/-! ### Helpers -/

/-- A check on the next state of an outcome. -/
def after (o : Host.Outcome State Fault Refusal) (f : State → Bool) : Bool :=
  match o with
  | .next t => f t
  | .fault _ => false
  | .refused _ => false

/-- A check on what a call returns and the state it leaves. -/
def called {α : Type} (o : Host.Outcome (Except CallError α × State) Fault Refusal) (f : Except CallError α → State → Bool) :
    Bool :=
  match o with
  | .next (r, t) => f r t
  | .fault _ => false
  | .refused _ => false

/-- The reduced-width instance with `ENT_LEN = 3`. -/
def small : Build := ⟨.w4, 3⟩

/-- A memory holding a list from index 0 on. -/
def memoryOf (vs : List Nat) : Memory := (List.range vs.length).map fun a => (a, BitVec.ofNat 8 (vs.getD a 0))

/-- A seeded `W = 4` block with the given live state. -/
def live4 (i j : Nat) (table : List Nat) : State :=
  { State.resetOf small with I := BitVec.ofNat 8 i, J := BitVec.ofNat 8 j, S := memoryOf table, SEEDED := true }

/-- A `W = 4` block with symbols loaded into the shadow bank. -/
def loaded4 (vs : List Nat) : State := { State.resetOf small with SH := memoryOf vs, CNT := vs.length }

/-- The table of a key at `W = 4` as numbers. -/
def ksa4 (key : List Byte) : List Nat := (List.range 16).map fun a => (elem small .S (ksa small key) a).toNat

/-- The table of 95_test_vectors.md V16 for the key "lol". -/
def base : List Nat := [12, 0, 10, 9, 1, 4, 15, 13, 3, 5, 2, 7, 8, 11, 14, 6]

/-- The live state as numbers. -/
def liveNumbers (s : State) : Nat × Nat × List Nat := (s.I.toNat, s.J.toNat, (List.range s.build.N).map s.tableAt)

/-! ### Decoding: the words of 30_encoding.md R97, R105 and 95_test_vectors.md V22, written out -/

theorem test_decode_nop : decode 0x0000#16 = .ok .nop := by decide
theorem test_decode_init : decode 0x1000#16 = .ok .init := by decide
theorem test_decode_kclr : decode 0x2000#16 = .ok .kclr := by decide
theorem test_decode_keyb : decode 0b0011000001101100#16 = .ok (.keyb 0x6C#8) := by decide
theorem test_decode_keyb_top : decode 0x30FF#16 = .ok (.keyb 255#8) := by decide
theorem test_decode_seed : decode 0b0100000000000000#16 = .ok .seed := by decide
theorem test_decode_aseed : decode 0x5000#16 = .ok .aseed := by decide
theorem test_decode_next : decode 0b0110000000000000#16 = .ok .next := by decide
theorem test_decode_word : decode 0x7000#16 = .ok .word := by decide
theorem test_decode_snap : decode 0x8000#16 = .ok .snap := by decide
theorem test_decode_shrd : decode 0b1001000100000001#16 = .ok (.shrd 257#12) := by decide
theorem test_decode_shrd_top : decode 0x9FFF#16 = .ok (.shrd 4095#12) := by decide
theorem test_decode_ldbeg : decode 0xA000#16 = .ok .ldbeg := by decide
theorem test_decode_ldsym : decode 0b1011000100000000#16 = .ok (.ldsym 256#12) := by decide
theorem test_decode_rstr : decode 0xC000#16 = .ok .rstr := by decide
theorem test_decode_rdcsr : decode 0b1101000000000001#16 = .ok (.rdcsr 1#12) := by decide
theorem test_decode_clre : decode 0xE000#16 = .ok .clre := by decide

/-- 95_test_vectors.md V22: illegal words, each with its reason. -/
theorem test_decode_illegal :
    ([0x0001#16, 0x1800#16, 0x2FFF#16, 0x4001#16, 0x5010#16, 0x6001#16, 0x7800#16, 0x8002#16, 0xA001#16, 0xC001#16,
      0xE001#16].map decode = List.replicate 11 (.error .operandNotZero)) ∧
    [0x3100#16, 0x3FFF#16].map decode = List.replicate 2 (.error .keyByteTooWide) ∧
    [0xF000#16, 0xFFFF#16].map decode = List.replicate 2 (.error .reservedOpcode) := by decide

theorem test_decodeTableWord : decodeTableWord 16 0x306C = some (.keyb 0x6C#8) ∧ decodeTableWord 16 0xF000 = none := by
  decide

/-! ### Well-formedness: an ill-formed term for each check (30_encoding.md R91, R103; 00_scope.md R8) -/

theorem test_illformed_operand_after_form_Z : (ScriptCmd.mk .NEXT (some 1)).wellFormed = false := by decide
theorem test_illformed_form_B_too_wide : (ScriptCmd.mk .KEYB (some 256)).wellFormed = false := by decide
theorem test_illformed_form_B_missing : (ScriptCmd.mk .KEYB none).wellFormed = false := by decide
theorem test_illformed_form_V_too_wide : (ScriptCmd.mk .LDSYM (some 4096)).wellFormed = false := by decide
theorem test_illformed_form_V_missing : (ScriptCmd.mk .LDSYM none).wellFormed = false := by decide
theorem test_illformed_form_A_too_wide : (ScriptCmd.mk .SHRD (some 4096)).wellFormed = false := by decide
theorem test_illformed_form_A_missing : (ScriptCmd.mk .RDCSR none).wellFormed = false := by decide
theorem test_illformed_build_no_entropy : (Build.mk .w8 0).wellFormed = false := by decide
theorem test_illformed_build_too_much_entropy : (Build.mk .w4 17).wellFormed = false := by decide
theorem test_wellformed_top_operands :
    (ScriptCmd.mk .KEYB (some 255)).wellFormed = true ∧ (ScriptCmd.mk .SHRD (some 4095)).wellFormed = true ∧
    Build.normative.wellFormed = true ∧ (Build.mk .w4 16).wellFormed = true := by decide

/-! ### The key schedule and seeding -/

/-- 95_test_vectors.md V16: the table of "lol" at `W = 4`, 15 iterations. -/
theorem test_ksa_lol : ksa4 [108#8, 111#8, 108#8] = base := by decide +kernel

/-- 95_test_vectors.md V16: the table of the key 1, 2, 3 at `W = 4`. -/
theorem test_ksa_123 : ksa4 [1#8, 2#8, 3#8] = [1, 3, 0, 9, 15, 5, 14, 7, 10, 11, 4, 8, 2, 6, 13, 12] := by decide +kernel

/-- 95_test_vectors.md V1: the first four iterations for "lol" at `W = 8` exchange 0 and 108, 1 and 220, 2 and 74, 3 and 185. -/
theorem test_mix_trace :
    ([0, 1, 2, 3, 74, 108, 185, 220].map fun a =>
      (elem Build.normative .S (mix Build.normative [108#8, 111#8, 108#8] 4 0 0#8 (identityTable Build.normative)) a).toNat) =
      [108, 220, 74, 185, 2, 0, 3, 1] := by decide +kernel

/-- 95_test_vectors.md V1, step 1 of "lol" at `W = 8`: `a = 171`, `J = 171`, `b = 154`, `t = 69`, output 65. -/
theorem test_next_first_of_lol :
    after (exec .next { State.reset with SEEDED := true, S := [(1, 171#8), (69, 65#8), (171, 154#8)] })
      (fun t => t.RSP == 65#36 && t.I == 1#8 && t.J == 171#8 && t.S == [(1, 154#8), (69, 65#8), (171, 171#8)]) = true := by
  decide +kernel

/-- 95_test_vectors.md V6: SEED without a key is `E_SEED`. -/
theorem test_seed_empty : after (step (State.reset.withFetchWord 16 0x4000)) (fun t => t.RSP == 0x100000000#36) = true := by
  decide

/-- 95_test_vectors.md V8: ASEED with `ENT_LEN = 3` and the port delivering 1, 2, 3 discards the pending byte 0x55. -/
theorem test_aseed_discards_key :
    after (exec .aseed { State.resetOf small with K := [(0, 0x55#8)], KLEN := 1, entIn := [1#8, 2#8, 3#8, 9#8] })
      (fun t => t.KLEN == 0 && t.entIn == [9#8] &&
        ((List.range 16).map t.tableAt == [1, 3, 0, 9, 15, 5, 14, 7, 10, 11, 4, 8, 2, 6, 13, 12])) = true := by decide +kernel

/-- 40_key_and_seed.md R123: `KEYB 0x6C` on an empty buffer. -/
theorem test_keyb_first :
    after (exec (.keyb 0x6C#8) State.reset) (fun t => t.KLEN == 1 && t.keyByteAt 0 == 108#8) = true := by decide

/-- 95_test_vectors.md V7: on a full buffer the byte is dropped and `KTRUNC` set, answered OK. -/
theorem test_keyb_full :
    after (exec (.keyb 1#8) { State.resetOf small with KLEN := 16 })
      (fun t => t.KLEN == 16 && t.KTRUNC && t.RSP == 0#36) = true := by decide

/-! ### The step: 95_test_vectors.md V10 -/

theorem test_next_swap_with_itself :
    after (exec .next (live4 0 0 [0, 1, 2, 3, 4, 5, 6, 7, 8, 9, 10, 11, 12, 13, 14, 15])) (fun t => t.RSP == 2#36 &&
      liveNumbers t == (1, 1, [0, 1, 2, 3, 4, 5, 6, 7, 8, 9, 10, 11, 12, 13, 14, 15])) = true := by decide +kernel

theorem test_next_output_at_I :
    after (exec .next (live4 0 0 [0, 5, 2, 3, 4, 12, 6, 7, 8, 9, 10, 11, 1, 13, 14, 15])) (fun t => t.RSP == 12#36 &&
      liveNumbers t == (1, 5, [0, 12, 2, 3, 4, 5, 6, 7, 8, 9, 10, 11, 1, 13, 14, 15])) = true := by decide +kernel

theorem test_next_output_at_J :
    after (exec .next (live4 0 0 [1, 3, 2, 0, 4, 5, 6, 7, 8, 9, 10, 11, 12, 13, 14, 15])) (fun t => t.RSP == 3#36 &&
      liveNumbers t == (1, 3, [1, 0, 2, 3, 4, 5, 6, 7, 8, 9, 10, 11, 12, 13, 14, 15])) = true := by decide +kernel

theorem test_next_wraps_I :
    after (exec .next (live4 15 9 base)) (fun t => t.RSP == 4#36 &&
      liveNumbers t == (0, 5, [4, 0, 10, 9, 1, 12, 15, 13, 3, 5, 2, 7, 8, 11, 14, 6])) = true := by decide +kernel

/-- 95_test_vectors.md V13: WORD after "lol" at `W = 4`, eight nibbles, the first most significant. -/
theorem test_word_lol :
    after (exec .word (live4 0 0 base)) (fun t => t.RSP == 0x08822D88E#36 && t.I == 8#8) = true := by decide +kernel

/-- 95_test_vectors.md V11, V13: NEXT and WORD unseeded. -/
theorem test_unseeded :
    after (exec .next State.reset) (fun t => t.RSP == 0x300000000#36 && t.csrSTATUS == 0x13#32) = true ∧
    after (exec .word State.reset) (fun t => t.RSP == 0x300000000#36) = true := by decide

/-! ### The shadow bank -/

/-- 95_test_vectors.md V16 and 20_memory.md R64: the image order `I`, `J`, `S[0]`, ... -/
theorem test_snap_order :
    after (exec .snap (live4 3 7 base)) (fun t => t.CNT == 18 && ((List.range 18).map t.shadowAt == 3 :: 7 :: base)) = true := by
  decide +kernel

/-- 95_test_vectors.md V18: SHRD below and at `CNT`, and with nothing loaded. -/
theorem test_shrd_bounds :
    after (exec (.shrd 1#12) (loaded4 [5, 12])) (fun t => t.RSP == 12#36) = true ∧
    after (exec (.shrd 2#12) (loaded4 [5, 12])) (fun t => t.RSP == 0x400000000#36) = true ∧
    after (exec (.shrd 0#12) State.reset) (fun t => t.RSP == 0x400000000#36) = true := by decide

/-- 43_snapshot_restore.md R200: `LDSYM 300` at `W = 8` stores 44 and sets `LDBAD`. -/
theorem test_ldsym_out_of_range :
    after (exec (.ldsym 300#12) State.reset) (fun t => t.CNT == 1 && t.shadowAt 0 == 44 && t.LDBAD && t.RSP == 0#36) = true := by
  decide

/-- 95_test_vectors.md V12: the 19th symbol is not examined. -/
theorem test_ldsym_too_many :
    after (exec (.ldsym 99#12) (loaded4 (0 :: 0 :: base))) (fun t => t.CNT == 18 && t.LDOVF && !t.LDBAD) = true := by
  decide +kernel

/-- 95_test_vectors.md V12: the four reasons. -/
theorem test_rstr_reasons :
    after (exec .rstr (loaded4 (0 :: 0 :: base.take 15))) (fun t => t.RSP == 0x200000001#36) = true ∧
    after (exec .rstr { loaded4 (0 :: 0 :: base) with LDOVF := true, LDBAD := true }) (fun t => t.RSP == 0x200000002#36) = true ∧
    after (exec .rstr { loaded4 (0 :: 0 :: base) with LDBAD := true }) (fun t => t.RSP == 0x200000003#36) = true ∧
    after (exec .rstr (loaded4 (0 :: 0 :: base.take 15 ++ [12]))) (fun t => t.RSP == 0x200000004#36) = true := by decide +kernel

/-- 95_test_vectors.md V19: a valid image restored into an unseeded block. -/
theorem test_rstr_unseeded :
    after (exec .rstr (loaded4 (3 :: 7 :: base)))
      (fun t => t.RSP == 0#36 && t.csrSTATUS == 0x220#32 && liveNumbers t == (3, 7, base)) = true := by decide +kernel

/-! ### System commands: 95_test_vectors.md V20, V21 -/

theorem test_rdcsr_id :
    after (exec (.rdcsr 0#12) State.reset) (fun t => t.RSP == 0x052430108#36) = true ∧
    after (exec (.rdcsr 0#12) (State.resetOf small)) (fun t => t.RSP == 0x052430104#36) = true := by decide

/-- 95_test_vectors.md V12: `STATUS` 0x2B2 at `W = 4`. -/
theorem test_rdcsr_status :
    after (exec (.rdcsr 1#12)
      { State.resetOf small with LDBAD := true, SEEDED := true, ERR := true, LASTERR := 2#4 }) (fun t => t.RSP == 0x2B2#36) = true := by
  decide

theorem test_rdcsr_index :
    after (exec (.rdcsr 4#12) State.reset) (fun t => t.RSP == 0x400000000#36 && t.LASTERR == 4#4) = true := by decide

theorem test_nop_keeps_record :
    after (exec .nop { State.reset with ERR := true, LASTERR := 2#4 }) (fun t => t.RSP == 0#36 && t.csrSTATUS == 0x12#32) = true := by
  decide

theorem test_clre :
    after (exec .clre { State.reset with ERR := true, LASTERR := 4#4, LDBAD := true })
      (fun t => t.RSP == 0#36 && t.csrSTATUS == 0x80#32) = true := by decide

theorem test_init :
    after (exec .init { live4 3 7 base with KLEN := 1, CNT := 18 })
      (fun t => t.csrSTATUS == 0x200#32 && t.KLEN == 0 && t.CNT == 0 && t.I == 0#8) = true := by decide

theorem test_kclr :
    after (exec .kclr { State.reset with KLEN := 2, KTRUNC := true, SEEDED := true })
      (fun t => t.KLEN == 0 && !t.KTRUNC && t.SEEDED) = true := by decide

theorem test_ldbeg :
    after (exec .ldbeg { State.reset with CNT := 3, LDBAD := true, LDOVF := true })
      (fun t => t.CNT == 0 && !t.LDBAD && !t.LDOVF) = true := by decide

/-- 60_exceptions.md R300: `0x6001` on an unseeded block is `E_ILLEGAL`, not `E_UNSEEDED`. -/
theorem test_illegal_before_unseeded :
    after (step (State.reset.withFetchWord 16 0x6001)) (fun t => t.RSP == 0x500000000#36 && t.csrSTATUS == 0x15#32) = true := by
  decide

/-! ### The host side and the script language -/

/-- 95_test_vectors.md V16: the text form of the image after "lol" at `W = 4`. -/
theorem test_image_text :
    called (snapshotCompact (live4 0 0 base)) (fun r t => decide (r = .ok
      ['0', '0', 'c', '0', 'a', '9', '1', '4', 'f', 'd', '3', '5', '2', '7', '8', 'b', 'e', '6'] ∧ t.CNT = 18)) = true := by
  decide +kernel

/-- 43_snapshot_restore.md R216, R190: with no live state `DUMPIMG` starts with an `E_UNSEEDED`. -/
theorem test_snapshot_unseeded :
    called (snapshotCompact (State.resetOf small)) (fun r t => decide (r = .error (.core 3#4) ∧ t.ERR = true)) = true := by
  decide +kernel

/-- 95_test_vectors.md V17: upper case and a short string are rejected. -/
theorem test_parse_rejects :
    parseImage small ['0', '0', 'C', '0', 'A', '9', '1', '4', 'F', 'D', '3', '5', '2', '7', '8', 'B', 'E', '6'] =
      .error .invalidStateString ∧
    parseImage small ['0', '0', 'c'] = .error .invalidStateString := by decide +kernel

/-- 95_test_vectors.md V14. -/
theorem test_bounded_integers :
    integerOf 1104242264#32 0 9 = 2 ∧ integerOf 1637087057#32 1 6 = 3 ∧ integerOf 2250360192#32 (-5) 5 = 0 ∧
    integerOf 165424249#32 7 7 = 7 := by decide

/-- 42_derived_outputs.md R179, R181: with one value in the range the word is consumed all the same, eight steps at `W = 4`. -/
theorem test_integer_call_consumes_word :
    called (nextInteger [.int 7, .int 7] (live4 0 0 base)) (fun r t => decide (r = .ok 7 ∧ t.I = 8#8)) = true := by
  decide +kernel

/-- 42_derived_outputs.md R177, R178: a call rejected by the host consumes no step. -/
theorem test_integer_call_rejected :
    called (nextInteger [.int 5, .int 1] (live4 0 0 base)) (fun r t =>
      decide (r = .error (.host .invalidRange) ∧ t = live4 0 0 base)) = true := by decide +kernel

theorem test_integer_arguments :
    integerRange [] = .error .invalidArgument ∧ integerRange [.nonInteger, .int 1] = .error .invalidArgument ∧
    integerRange [.int 1, .int 2, .int 3] = .error .invalidArgument ∧ integerRange [.int 5, .int 1] = .error .invalidRange ∧
    integerRange [.int 9] = .ok (0, 9) := by decide

/-- 40_key_and_seed.md R141, R142: character codes and residues mod 256; a character outside the BMP gives two bytes, and
an unpaired surrogate (92_eei_decisions.md D26) one. -/
theorem test_key_bytes :
    textKey (utf16 ['l', 'o', 'l']) = [108#8, 111#8, 108#8] ∧ [257, 2, -1].map intKeyByte = [1#8, 2#8, 255#8] ∧
    textKey (utf16 [Char.ofNat 0x1F600]) = [0x3D#8, 0x00#8] ∧ textKey [0xD83D#16] = [0x3D#8] := by decide

/-- 43_snapshot_restore.md R212: out of range for the port, a missing field, a short table. -/
theorem test_restore_arguments :
    restoreCommands small ⟨some (.int 4096), some (.int 0), some (base.map fun n => .int n)⟩ = .error .invalidState ∧
    restoreCommands small ⟨none, some (.int 0), some (base.map fun n => .int n)⟩ = .error .invalidState ∧
    restoreCommands small ⟨some (.int 0), some (.int 0), some [.int 1]⟩ = .error .invalidState := by decide

/-- 30_encoding.md R103: a line with a comment, a rejected operand, a blank line. -/
theorem test_assemble_lines :
    assembleLine ['K', 'E', 'Y', 'B', ' ', '0', 'x', '6', 'C', ' ', ';', 'k'] = some [0x306C#16] ∧
    assembleLine ['N', 'E', 'X', 'T', ' ', '1'] = none ∧ assembleLine [' ', ';'] = some [] := by decide +kernel

/-! ### The sequencer -/

/-- 70_reset_and_hazards.md R337: NEXT takes 4 micro-steps after its decode, and gives what 95_test_vectors.md V10 (d) says. -/
theorem test_sequencer_next :
    after (startWord 0x6000#16 (live4 15 9 base)) (fun s => after (advanceMany 4 s) (fun t => t.RV && t.RSP == 4#36 &&
      liveNumbers t == (0, 5, [4, 0, 10, 9, 1, 12, 15, 13, 3, 5, 2, 7, 8, 11, 14, 6]))) = true := by decide +kernel

/-- 45_sequencer_fsm.md R273: VPERM stops at a symbol already seen, before any write to the live state. -/
theorem test_sequencer_duplicate :
    after (microStep none { loaded4 (0 :: 0 :: base.take 15 ++ [12]) with
      PH := .vperm, OPC := 0xC000#16, C := 15, SEEN := BitVec.twoPow 256 12 })
      (fun t => t.PH == .idle && t.RSP == 0x200000004#36 && !t.SEEDED) = true := by decide +kernel

end Sys2Proof.Tests
end

