-- ==== Sys2Proof/Tests/Witnesses.lean ====
section
/-!
SUPPORT. For every statement with hypotheses, a named theorem that concrete states and operands meet all of them together,
clause by clause, at the boundary of the clause where it has one.
-/

namespace Sys2Proof.Tests

open Sys2Proof Sys2Proof.Machine

/-- A seeded `W = 4` block with the identity table. -/
def seeded4 : State := { State.resetOf small with S := identityTable small, SEEDED := true }

/-- `seeded4` after the error response of an RSTR with nothing loaded. -/
def failed4 : State := seeded4.errored .eState 1#32

theorem inv_seeded4 : Inv seeded4 where
  build_ok := by decide
  idle := rfl
  klen_le := by decide
  cnt_le := by decide
  ldovf_full := by decide
  ktrunc_full := by decide
  no_err := by decide
  err := by decide
  bijective := fun _ => by unfold TableBijective Bijective; decide +kernel
  i_lt := by decide
  j_lt := by decide
  s_ok := memoryOk_identityTable small
  k_ok := memoryOk_nil _ _
  sh_ok := memoryOk_nil _ _
  s_written := fun _ => written_identityTable small
  k_written := written_zero _
  sh_written := written_zero _

/-! ### The step -/

theorem witness_StepRunsDecodedCommand : ∃ (s : State) (w : CmdWord) (rest : List CmdWord) (i : Instr),
    s.PH = .idle ∧ s.RV = false ∧ s.cmdIn = w :: rest ∧ decode w = .ok i :=
  ⟨{ State.reset with cmdIn := [0x6000#16, 0x0000#16] }, 0x6000#16, [0x0000#16], .next, rfl, rfl, rfl, by decide⟩

theorem witness_StepAnswersIllegalWord : ∃ (s : State) (w : CmdWord) (rest : List CmdWord) (e : Illegal),
    s.PH = .idle ∧ s.RV = false ∧ s.cmdIn = w :: rest ∧ decode w = .error e :=
  ⟨{ State.reset with cmdIn := [0x6001#16] }, 0x6001#16, [], .operandNotZero, rfl, rfl, rfl, by decide⟩

theorem witness_StepBetweenCommands :
    (∃ s : State, s.PH = .idle ∧ s.RV = true) ∧ (∃ s : State, s.PH = .idle ∧ s.RV = false ∧ s.cmdIn = []) :=
  ⟨⟨failed4, rfl, rfl⟩, ⟨State.reset, rfl, rfl, rfl⟩⟩

/-! ### The commands -/

theorem witness_InitIndistinguishableFromReset : ∃ (s t : State), exec .init s = .next t := ⟨seeded4, _, rfl⟩

theorem witness_KeybAppendsOrDrops :
    (∃ s : State, s.KLEN < s.build.KMAX ∧ s.KLEN + 1 = s.build.KMAX) ∧
    (∃ s : State, ¬ s.KLEN < s.build.KMAX ∧ s.KLEN = s.build.KMAX) :=
  ⟨⟨{ State.resetOf small with KLEN := 15 }, by decide⟩, ⟨{ State.resetOf small with KLEN := 16 }, by decide⟩⟩

theorem witness_SeedRunsKeySchedule : (∃ s : State, s.KLEN = 0) ∧ (∃ s : State, s.KLEN ≠ 0 ∧ s.KLEN = 1) :=
  ⟨⟨State.reset, rfl⟩, ⟨{ State.resetOf small with K := [(0, 7#8)], KLEN := 1 }, by decide⟩⟩

/-- ASEED's inner hypothesis: a byte the source was to deliver and that is drawn. -/
theorem witness_AseedSeedsFromDrawnBytes : ∃ (s : State) (k : Nat), k < s.build.entLen ∧ k < s.entIn.length :=
  ⟨{ State.reset with entIn := [1#8, 2#8] }, 1, by decide⟩

theorem witness_NextAdvancesOneStep :
    (∃ s : State, s.SEEDED = false) ∧
    (∃ (s : State) (i j : Nat), s.SEEDED = true ∧ i = (s.I.toNat + 1) % s.build.N ∧
      j = (s.J.toNat + s.tableAt i) % s.build.N ∧ i = 0) :=
  ⟨⟨State.reset, rfl⟩, ⟨live4 15 9 base, 0, 5, rfl, by decide, by decide +kernel, rfl⟩⟩

theorem witness_WordIsConsecutiveNexts : (∃ s : State, s.SEEDED = false) ∧ (∃ s : State, s.SEEDED = true) :=
  ⟨⟨State.reset, rfl⟩, ⟨seeded4, rfl⟩⟩

theorem witness_WordOfFourBytes : ∃ s : State, s.build.width = .w8 ∧ s.SEEDED = true :=
  ⟨{ State.reset with S := identityTable Build.normative, SEEDED := true }, rfl, rfl⟩

theorem witness_SnapCapturesLiveState :
    (∃ s : State, s.SEEDED = false) ∧ (∃ s : State, s.SEEDED = true) ∧
    (∃ (s : State) (k : Nat), s.SEEDED = true ∧ k < s.build.N ∧ k + 1 = s.build.N) ∧
    (∃ (s : State) (a : Nat), s.SEEDED = true ∧ s.build.IMG_LEN ≤ a ∧ a = 18) :=
  ⟨⟨State.reset, rfl⟩, ⟨seeded4, rfl⟩, ⟨seeded4, 15, rfl, by decide, by decide⟩, ⟨seeded4, 18, rfl, by decide, rfl⟩⟩

theorem witness_ShrdReadsShadow :
    (∃ (a : BitVec 12) (s : State), s.CNT ≤ a.toNat ∧ a.toNat = s.CNT) ∧
    (∃ (a : BitVec 12) (s : State), s.build.IMG_LEN ≤ a.toNat ∧ a.toNat = s.build.IMG_LEN) ∧
    (∃ (a : BitVec 12) (s : State), a.toNat < s.CNT ∧ a.toNat < s.build.IMG_LEN ∧ a.toNat + 1 = s.CNT) :=
  ⟨⟨2#12, loaded4 [5, 12], by decide⟩, ⟨18#12, loaded4 [5, 12], by decide⟩, ⟨1#12, loaded4 [5, 12], by decide⟩⟩

theorem witness_LdsymAppends :
    (∃ s : State, s.CNT < s.build.IMG_LEN ∧ s.CNT + 1 = s.build.IMG_LEN) ∧
    (∃ s : State, ¬ s.CNT < s.build.IMG_LEN ∧ s.CNT = s.build.IMG_LEN) :=
  ⟨⟨{ State.resetOf small with CNT := 17 }, by decide⟩, ⟨{ State.resetOf small with CNT := 18 }, by decide⟩⟩

theorem witness_RstrValidatesThenInstalls :
    (∃ s : State, s.LDOVF = true) ∧
    (∃ s : State, s.LDOVF = false ∧ s.CNT ≠ s.build.IMG_LEN ∧ s.CNT + 1 = s.build.IMG_LEN) ∧
    (∃ s : State, s.LDOVF = false ∧ s.CNT = s.build.IMG_LEN ∧ s.LDBAD = true) ∧
    (∃ s : State, s.LDOVF = false ∧ s.CNT = s.build.IMG_LEN ∧ s.LDBAD = false ∧
      ¬ Bijective s.build.N (fun k => s.shadowAt (2 + k))) ∧
    (∃ s : State, s.LDOVF = false ∧ s.CNT = s.build.IMG_LEN ∧ s.LDBAD = false ∧
      Bijective s.build.N (fun k => s.shadowAt (2 + k))) := by
  refine ⟨⟨{ loaded4 (0 :: 0 :: base) with LDOVF := true }, rfl⟩, ⟨loaded4 (0 :: 0 :: base.take 15), by decide⟩,
    ⟨{ loaded4 (0 :: 0 :: base) with LDBAD := true }, by decide⟩, ⟨loaded4 (0 :: 0 :: base.take 15 ++ [12]), ?_⟩,
    ⟨loaded4 (3 :: 7 :: base), ?_⟩⟩ <;> unfold Bijective <;> decide +kernel

theorem witness_RdcsrReadsRegisters :
    (∃ n : BitVec 12, 3 < n.toNat ∧ n.toNat = 4) ∧ (∃ s : State, s.KLEN ≤ s.build.KMAX ∧ s.KLEN = 16 ∧ s.build.KMAX = 16) ∧
    (∃ s : State, s.CNT ≤ s.build.IMG_LEN ∧ s.CNT = 18 ∧ s.build.IMG_LEN = 18) :=
  ⟨⟨4#12, by decide⟩, ⟨{ State.resetOf small with KLEN := 16 }, by decide⟩, ⟨{ State.resetOf small with CNT := 18 }, by decide⟩⟩

/-! ### Errors and frames -/

theorem exec_rstr_seeded4 : exec .rstr seeded4 = .next failed4 := rfl

theorem witness_ErrorChangesOnlyRecord : ∃ (i : Instr) (s t : State), exec i s = .next t ∧ rspCode t.RSP ≠ 0#4 :=
  ⟨.rstr, seeded4, failed4, exec_rstr_seeded4, by decide⟩

theorem witness_ResponseCodesOfCommands : ∃ (i : Instr) (s t : State), exec i s = .next t :=
  ⟨.rstr, seeded4, failed4, exec_rstr_seeded4⟩

theorem witness_SameErrorAgain : ∃ (i : Instr) (s t : State), exec i s = .next t ∧ rspCode t.RSP ≠ 0#4 :=
  witness_ErrorChangesOnlyRecord

theorem witness_ErrorRecordGatesNothing : ∃ (i : Instr) (s t : State), i ≠ .rdcsr 1#12 ∧ exec i s = .next t :=
  ⟨.rdcsr 2#12, failed4, _, by decide, rfl⟩

/-- Each of the thirteen hypotheses is met by some command: SEED changes the live state and the key, LDSYM and NEXT the rest. -/
theorem witness_OnlyListedCommandsWriteEachRegister :
    (∃ (i : Instr) (s t : State), exec i s = .next t ∧ t.S ≠ s.S ∧ t.SEEDED ≠ s.SEEDED ∧ t.K ≠ s.K ∧ t.KLEN ≠ s.KLEN ∧
      t.KTRUNC ≠ s.KTRUNC) ∧
    (∃ (i : Instr) (s t : State), exec i s = .next t ∧ t.I ≠ s.I ∧ t.J ≠ s.J) ∧
    (∃ (i : Instr) (s t : State), exec i s = .next t ∧ t.SH ≠ s.SH ∧ t.CNT ≠ s.CNT ∧ t.LDBAD ≠ s.LDBAD) ∧
    (∃ (i : Instr) (s t : State), exec i s = .next t ∧ t.LDOVF ≠ s.LDOVF) ∧
    (∃ (i : Instr) (s t : State), exec i s = .next t ∧ t.ERR ≠ s.ERR ∧ t.LASTERR ≠ s.LASTERR) :=
  ⟨⟨.init, { seeded4 with K := [(0, 1#8)], KLEN := 1, KTRUNC := true }, _, rfl, by decide +kernel⟩,
   ⟨.next, seeded4, _, rfl, by decide +kernel⟩,
   ⟨.ldsym 4095#12, State.resetOf small, _, rfl, by decide +kernel⟩,
   ⟨.ldsym 0#12, { State.resetOf small with CNT := 18 }, _, rfl, by decide⟩,
   ⟨.rstr, seeded4, failed4, exec_rstr_seeded4, by decide⟩⟩

theorem witness_ShadowAndLiveAreIndependent :
    (∃ (i : Instr) (s t : State), exec i s = .next t ∧
      (i ∈ [.kclr, .seed, .aseed, .next, .word] ∨ ∃ b, i = .keyb b)) ∧
    (∃ (i : Instr) (s t : State), exec i s = .next t ∧
      (i = .ldbeg ∨ (∃ v, i = .ldsym v) ∨ (∃ a, i = .shrd a) ∨ (i = .rstr ∧ rspCode t.RSP ≠ 0#4))) :=
  ⟨⟨.next, seeded4, _, rfl, .inl (by decide)⟩,
   ⟨.rstr, seeded4, failed4, exec_rstr_seeded4, .inr (.inr (.inr ⟨rfl, by decide⟩))⟩⟩

theorem witness_CommandsKeepBuildAndTemporaries : ∃ (i : Instr) (s t : State), exec i s = .next t ∧ i ≠ .aseed :=
  ⟨.rstr, seeded4, failed4, exec_rstr_seeded4, by decide⟩

theorem witness_BuildNeverChanges :
    (∃ s t : State, step s = .next t) ∧ (∃ (p : Pins) (s t : State), clockEdge p s = .next t) :=
  ⟨⟨State.reset, _, rfl⟩, ⟨⟨true, false, 0#16, false, false, 0#8⟩, seeded4, _, rfl⟩⟩

/-! ### Reset and the invariant -/

theorem witness_InvariantHoldsAtReset :
    (∃ b : Build, b.wellFormed = true ∧ b.width = .w8 ∧ b.entLen = 256) ∧
    (∃ b : Build, b.wellFormed = true ∧ b.width = .w4 ∧ b.entLen = 1) :=
  ⟨⟨⟨.w8, 256⟩, by decide⟩, ⟨⟨.w4, 1⟩, by decide⟩⟩

/-- The step of the witness runs a command. -/
theorem witness_StepKeepsInvariant : ∃ s t : State, Inv s ∧ step s = .next t ∧ s.cmdIn = [0x6000#16] :=
  ⟨{ seeded4 with cmdIn := [0x6000#16] }, _,
   { inv_seeded4 with }, rfl, rfl⟩

theorem witness_StepNeverStopsBetweenCommands : ∃ s : State, s.PH = .idle ∧ s.cmdIn = [0xF000#16] :=
  ⟨{ State.reset with cmdIn := [0xF000#16] }, rfl, rfl⟩

/-! ### The key schedule and the step -/

theorem witness_KeyScheduleIsPermutation : ∃ key : List Byte, key ≠ [] ∧ key = [0#8] := ⟨[0#8], by decide⟩

theorem witness_StepKeepsBijection :
    (∃ (b : Build) (l : Live), TableBijective b l.S) ∧
    (∃ (b : Build) (l : Live) (a : Nat), a ≠ (stepLive b l).I.toNat ∧ a ≠ (stepLive b l).J.toNat) :=
  ⟨⟨small, ⟨identityTable small, 0#8, 0#8⟩, inv_seeded4.bijective rfl⟩,
   ⟨small, ⟨identityTable small, 0#8, 0#8⟩, 0, by decide +kernel⟩⟩

theorem witness_LongKeysAgree :
    (∃ (b : Build) (k1 k2 : List Byte), b.N - 1 ≤ k1.length ∧ b.N - 1 ≤ k2.length ∧
      k1.take (b.N - 1) = k2.take (b.N - 1) ∧ k1 ≠ k2) ∧
    (∃ (b : Build) (key : List Byte), b.KMAX < key.length ∧ key.length = b.KMAX + 1) :=
  ⟨⟨small, List.replicate 15 7#8, List.replicate 15 7#8 ++ [1#8, 2#8], by decide +kernel⟩,
   ⟨small, List.replicate 17 7#8, by decide +kernel⟩⟩

/-- 46_common_laws.md R286 (a): the keys 108, 111, 108 and 12, 15, 12. -/
theorem witness_ReducedWidthUsesLowNibbles : ∃ (b : Build) (k1 k2 : List Byte), b.width = .w4 ∧
    k1.map (fun v => v.toNat % 16) = k2.map (fun v => v.toNat % 16) ∧ k1 ≠ k2 :=
  ⟨small, [108#8, 111#8, 108#8], [12#8, 15#8, 12#8], by decide⟩

theorem witness_StepOutputForms : ∃ (b : Build) (l : Live) (i j t : Nat) (a c : Sym),
    i = (l.I.toNat + 1) % b.N ∧ a = elem b .S l.S i ∧ j = (l.J.toNat + a.toNat) % b.N ∧ c = elem b .S l.S j ∧
    t = (a.toNat + c.toNat) % b.N :=
  ⟨small, (live4 15 9 base).live, _, _, _, _, _, rfl, rfl, rfl, rfl, rfl⟩

/-- The case `i = j` of the last clause occurs. -/
theorem witness_StepOutputForms_equal_cursors : ∃ (b : Build) (l : Live) (i : Nat),
    i = (l.I.toNat + 1) % b.N ∧ i = (l.J.toNat + (elem b .S l.S i).toNat) % b.N :=
  ⟨small, seeded4.live, 1, by decide +kernel⟩

theorem witness_StepIsInvertible : ∃ (b : Build) (l m : Live), l.I.toNat < b.N ∧ l.J.toNat < b.N ∧ m = stepLive b l :=
  ⟨small, (live4 15 9 base).live, _, by decide, by decide, rfl⟩

/-! ### Runs of commands -/

theorem witness_KeyLoadedThenSeeded : ∃ key : List Byte, key ≠ [] ∧ key.length = 17 := ⟨List.replicate 17 7#8, by decide⟩

theorem witness_RewindReturnsToSnapshot : ∃ (s : State) (between : List Instr),
    Inv s ∧ s.SEEDED = true ∧ (∀ i ∈ between, RewindSafe i) ∧ between = [.next, .word, .keyb 1#8, .seed] := by
  refine ⟨seeded4, [.next, .word, .keyb 1#8, .seed], inv_seeded4, rfl, fun i hi => ?_, rfl⟩
  simp only [List.mem_cons, List.not_mem_nil, or_false] at hi
  rcases hi with rfl | rfl | rfl | rfl <;> simp [RewindSafe]

theorem witness_LoadedImageBecomesLiveState : ∃ (s : State) (image : List (BitVec 12)),
    image.length = s.build.IMG_LEN ∧ (∀ v ∈ image, v.toNat < s.build.N) ∧ (image.drop 2).Nodup :=
  ⟨State.resetOf small, (3 :: 7 :: base).map (BitVec.ofNat 12), rfl,
   by simp [State.resetOf, small, base, Build.N], by decide⟩

theorem witness_ForkedGeneratorGivesSameStream : ∃ (s u : State),
    Inv s ∧ s.SEEDED = true ∧ u.build.width = s.build.width ∧ u.build ≠ s.build :=
  ⟨seeded4, State.resetOf Build.reduced, inv_seeded4, rfl, rfl, by decide⟩

theorem witness_FailedRestoreIsInvisible : ∃ (s t : State), exec .rstr s = .next t ∧ rspCode t.RSP ≠ 0#4 :=
  ⟨seeded4, failed4, exec_rstr_seeded4, by decide⟩

/-- Two states that differ in an unseeded table, a key byte above `KLEN` and a shadow symbol above `CNT`. -/
theorem witness_UnspecifiedStorageIsUnobservable : ∃ s t : State, SameVisible s t ∧ s ≠ t :=
  ⟨State.resetOf small, { State.resetOf small with S := [(3, 5#8)], K := [(0, 1#8)], SH := [(0, 2#8)], RSP := 7#36 },
   { build := rfl, idle_left := rfl, idle_right := rfl, seeded := rfl, cursors := fun h => absurd h (by decide),
     table := fun h => absurd h (by decide), klen := rfl, key := fun a ha => absurd ha (Nat.not_lt_zero a), ktrunc := rfl,
     cnt := rfl, shadow := fun a ha => absurd ha (Nat.not_lt_zero a), ldbad := rfl, ldovf := rfl, err := rfl, lasterr := rfl,
     rv := rfl, rsp := fun h => absurd h (by decide), cmdIn := rfl, entIn := rfl, draws := rfl }, by decide⟩

/-! ### The sequencer and the pins -/

theorem witness_SequencerRefinesCommands : ∃ (s : State) (w : CmdWord) (i : Instr),
    Inv s ∧ s.RV = false ∧ decode w = .ok i ∧ i = .word :=
  ⟨seeded4, 0x7000#16, .word, inv_seeded4, rfl, by decide, rfl⟩

/-- The other clauses of SequencerRefinesCommands: an illegal word, an edge in flight, one outside `ENT`, one that transfers the
byte the source was to deliver. -/
theorem witness_SequencerRefinesCommands_edges :
    (∃ (w : CmdWord) (e : Illegal), decode w = .error e) ∧
    (∃ (p : Pins) (s : State), p.rst = false ∧ s.PH ≠ .idle ∧ s.RV = false ∧ p.entValid = false) ∧
    (∃ (p : Pins) (s : State), p.rst = false ∧ s.PH ≠ .idle ∧ s.PH ≠ .ent ∧ s.RV = false) ∧
    (∃ (p : Pins) (s : State) (rest : List Byte),
      p.rst = false ∧ s.PH = .ent ∧ s.RV = false ∧ p.entValid = true ∧ s.entIn = p.entData :: rest) :=
  ⟨⟨0x3100#16, .keyByteTooWide, by decide⟩,
   ⟨⟨false, false, 0#16, false, false, 0#8⟩, { seeded4 with PH := .ent, OPC := 0x5000#16 }, by decide⟩,
   ⟨⟨false, false, 0#16, false, true, 7#8⟩, { seeded4 with PH := .st1, OPC := 0x6000#16 }, by decide⟩,
   ⟨⟨false, false, 0#16, false, true, 7#8⟩, { seeded4 with PH := .ent, OPC := 0x5000#16, entIn := [7#8] }, [], by decide⟩⟩

theorem witness_ResetPinWinsFromAnyPhase : ∃ (p : Pins) (s : State), p.rst = true ∧ s.PH = .rcopy :=
  ⟨⟨true, false, 0#16, false, false, 0#8⟩, { seeded4 with PH := .rcopy }, rfl, rfl⟩

theorem witness_WordNotAcceptedWhileBusy :
    (∃ (p : Pins) (s : State), (s.outputs p.rst).cmdReady = false ∧ p.cmdValid = true) ∧
    (∃ (p : Pins) (s : State), (s.outputs p.rst).cmdReady = true ∧ p.cmdValid = true) ∧
    (∃ (p : Pins) (s : State), (s.outputs p.rst).cmdReady = true ∧ p.cmdValid = false) :=
  ⟨⟨⟨false, true, 0x6000#16, false, false, 0#8⟩, failed4, by decide⟩,
   ⟨⟨false, true, 0x6000#16, false, false, 0#8⟩, seeded4, by decide⟩,
   ⟨⟨false, false, 0x6000#16, false, false, 0#8⟩, seeded4, by decide⟩⟩

theorem witness_ResponseHeldUntilTaken :
    (∃ (p : Pins) (s : State), p.rst = false ∧ s.PH = .idle ∧ s.RV = true ∧ p.rspReady = false) ∧
    (∃ (p : Pins) (s : State), p.rst = false ∧ s.PH = .idle ∧ s.RV = true ∧ p.rspReady = true) :=
  ⟨⟨⟨false, true, 0#16, false, false, 0#8⟩, failed4, rfl, rfl, rfl, rfl⟩,
   ⟨⟨false, true, 0#16, true, false, 0#8⟩, failed4, rfl, rfl, rfl, rfl⟩⟩

theorem witness_StarvedAseedWaits : ∃ (p : Pins) (s : State),
    p.rst = false ∧ p.entValid = false ∧ s.PH = .ent ∧ s.inFlight = some .aseed ∧ s.RV = false :=
  ⟨⟨false, false, 0#16, false, false, 0#8⟩, { State.resetOf small with PH := .ent, OPC := 0x5000#16 }, rfl, rfl, rfl,
   by decide, rfl⟩

/-! ### The host side -/

theorem witness_ImageTextRoundTrips :
    (∃ (b : Build) (image : List Sym), image.length = b.IMG_LEN ∧ ∀ v ∈ image, v.toNat < b.N) ∧
    (∃ (b : Build) (text : List Char) (image : List (BitVec 12)), parseImage b text = .ok image) :=
  ⟨⟨small, (3 :: 7 :: base).map (BitVec.ofNat 8), by decide +kernel⟩, ⟨small, List.replicate 18 'f', _, rfl⟩⟩

theorem witness_BoundedIntegerInRange : (∃ lo hi : Int, lo ≤ hi ∧ lo < 0) ∧ (∃ lo hi : Int, lo ≤ hi ∧ lo = hi) :=
  ⟨⟨-5, 5, by decide⟩, ⟨7, 7, by decide⟩⟩

theorem witness_SeedArgumentChecks :
    (∃ xs : List HostNum, ∃ x ∈ xs, x.toInt? = none) ∧ (∃ ns : List Int, ns ≠ [] ∧ ns = [-1]) ∧
    (∃ us : List CodeUnit, us ≠ [] ∧ us = [0xD83D#16]) ∧ (∃ c : Char, c.toNat < 0x10000 ∧ c.toNat = 0xFFFF) ∧
    (∃ c : Char, 0x10000 ≤ c.toNat ∧ c.toNat = 0x10FFFF) :=
  ⟨⟨[.int 1, .nonFinite], .nonFinite, by decide, rfl⟩, ⟨[-1], by decide⟩, ⟨[0xD83D#16], by decide⟩,
   ⟨Char.ofNat 0xFFFF, by decide⟩, ⟨Char.ofNat 0x10FFFF, by decide⟩⟩

/-! ### The step lemma of non-interference, and the host's calls -/

/-- Two states that differ in an unseeded table, about to accept a KEYB. -/
theorem witness_StepKeepsSameVisible : ∃ s t s' : State, SameVisible s t ∧ s ≠ t ∧ step s = .next s' ∧ s'.KLEN = 1 :=
  ⟨{ State.resetOf small with cmdIn := [0x306C#16] }, { State.resetOf small with cmdIn := [0x306C#16], S := [(3, 5#8)] }, _,
   { build := rfl, idle_left := rfl, idle_right := rfl, seeded := rfl, cursors := fun h => absurd h (by decide),
     table := fun h => absurd h (by decide), klen := rfl, key := fun a ha => absurd ha (Nat.not_lt_zero a), ktrunc := rfl,
     cnt := rfl, shadow := fun a ha => absurd ha (Nat.not_lt_zero a), ldbad := rfl, ldovf := rfl, err := rfl, lasterr := rfl,
     rv := rfl, rsp := fun h => absurd h (by decide), cmdIn := rfl, entIn := rfl, draws := rfl }, by decide, rfl, rfl⟩

theorem witness_IntegerCallDrawsOneWord :
    (∃ args : List HostNum, (∀ hi, args ≠ [.int hi]) ∧ ∀ lo hi, args ≠ [.int lo, .int hi]) ∧
    (∃ lo hi : Int, hi < lo ∧ lo = 0 ∧ hi = -1) ∧
    (∃ (lo hi : Int) (s : State), lo ≤ hi ∧ lo = hi ∧ s.SEEDED = true) ∧
    (∃ (lo hi : Int) (s : State), lo ≤ hi ∧ s.SEEDED = false) :=
  ⟨⟨[], by simp⟩, ⟨0, -1, by decide⟩, ⟨7, 7, seeded4, by decide⟩, ⟨-5, 5, State.reset, by decide⟩⟩

theorem witness_CompactCallsRoundTrip :
    (∃ s : State, Inv s ∧ s.SEEDED = true) ∧
    (∃ (s t : State) (text : List Char), restoreCompact text s = .next (.ok (), t)) ∧ (∃ s : State, s.SEEDED = false) :=
  ⟨⟨seeded4, inv_seeded4, rfl⟩,
   ⟨State.resetOf small, _, imageText small ((3 :: 7 :: base).map (BitVec.ofNat 8)), rfl⟩, ⟨State.reset, rfl⟩⟩

theorem witness_RejectedCallsSendNothing :
    (∃ (a : SeedArg) (e : HostError), constructCommands a = .error e) ∧
    (∃ (args : List HostNum) (e : HostError), integerRange args = .error e) ∧
    (∃ (a : StateArg) (e : HostError) (s : State), restoreCommands s.build a = .error e) ∧
    (∃ (text : List Char) (e : HostError) (s : State), parseImage s.build text = .error e) :=
  ⟨⟨.text [], _, rfl⟩, ⟨[.int (-1)], _, rfl⟩, ⟨⟨none, none, none⟩, _, State.reset, rfl⟩, ⟨['0'], _, State.resetOf small, rfl⟩⟩

end Sys2Proof.Tests
end

section
/-!
PROOFS. The build parameters never change at run time (00_scope.md R8): no operation of CORE writes `build`, so no command, no
micro-step and no clock edge changes it.
-/

namespace Sys2Proof.Machine

/-! ### Outcomes that keep a field -/

/-- If the outcome `o` of a transition from `s` is a next state, the field (or any function of the state) `f` has there the
value it has in `s`. -/
def Keeps {α : Type} (f : State → α) (s : State) (o : Host.Outcome State Fault Refusal) : Prop :=
  ∀ t, o = .next t → f t = f s

namespace Keeps

variable {α : Type} {f : State → α} {s u : State} {o o' : Host.Outcome State Fault Refusal}

theorem next (h : f u = f s) : Keeps f s (.next u) := fun _ ht => by cases ht; exact h

theorem fault (r : Fault) : Keeps f s (.fault r) := fun _ ht => by cases ht

/-- A transition keeps a field if both its branches do. -/
theorem ite {c : Prop} [Decidable c] (h : Keeps f s o) (h' : Keeps f s o') : Keeps f s (if c then o else o') := by
  split
  · exact h
  · exact h'

/-- A transition from `u` that keeps a field keeps it from any state that agrees with `u` on it. -/
theorem trans (h : Keeps f u o) (hu : f u = f s) : Keeps f s o := fun t ht => (h t ht).trans hu

end Keeps

/-! ### Commands -/

@[simp] theorem drawByte_build (s : State) : s.drawByte.2.build = s.build := by rw [(drawByte_spec s).1]

@[simp] theorem drawBytes_build (n : Nat) (s : State) : (State.drawBytes n s).2.build = s.build := by
  rw [(drawBytes_spec n s).2.1]

theorem exec_keeps_build (i : Instr) (s : State) : Keeps State.build s (exec i s) := by
  cases i with
  | nop => exact .next rfl
  | init => exact .next rfl
  | kclr => exact .next rfl
  | keyb b => exact .ite (.next rfl) (.next rfl)
  | seed => exact .ite (.next rfl) (.next rfl)
  | aseed => rw [exec_aseed]; exact .next (by simp)
  | next => exact .ite (.next rfl) (.next rfl)
  | word => exact .ite (.next rfl) (.next rfl)
  | snap => exact .ite (.next rfl) (.next rfl)
  | shrd a => exact .ite (.next rfl) (.next rfl)
  | ldbeg => exact .next rfl
  | ldsym v => exact .ite (.next rfl) (.next rfl)
  | rstr =>
    cases h : s.restoreReason with
    | some r => rw [exec_rstr_invalid s r h]; exact .next rfl
    | none => rw [exec_rstr_valid s h]; exact .next rfl
  | rdcsr n => exact .ite (.next rfl) (.next rfl)
  | clre => exact .next rfl

theorem runWord_keeps_build (w : CmdWord) (s : State) : Keeps State.build s (runWord w s) := by
  obtain ⟨i, -, h⟩ | ⟨e, -, h⟩ := runWord_cases w s
  · rw [h]; exact exec_keeps_build i s
  · rw [h]; exact .next rfl

/-! ### Micro-steps -/

section
variable (s : State)

@[simp] theorem State.microEnt_build (ent : Option Byte) : (s.microEnt ent).build = s.build := by
  cases ent with
  | none => rfl
  | some v => unfold State.microEnt; dsimp only; split <;> rfl

@[simp] theorem State.microKfill_build : s.microKfill.build = s.build := by unfold State.microKfill; split <;> rfl

@[simp] theorem State.microKmix_build : s.microKmix.build = s.build := by unfold State.microKmix; split <;> rfl

@[simp] theorem State.microSt1_build : s.microSt1.build = s.build := rfl

@[simp] theorem State.microSt2_build : s.microSt2.build = s.build := rfl

@[simp] theorem State.microSt3_build : s.microSt3.build = s.build := rfl

@[simp] theorem State.microSt4_build : s.microSt4.build = s.build := by
  unfold State.microSt4; split
  · rfl
  · split <;> rfl

@[simp] theorem State.microSnapc_build : s.microSnapc.build = s.build := by unfold State.microSnapc; split <;> rfl

@[simp] theorem State.microVchk_build : s.microVchk.build = s.build := by
  unfold State.microVchk; split
  · rfl
  · split
    · rfl
    · split <;> rfl

@[simp] theorem State.microVperm_build : s.microVperm.build = s.build := by
  unfold State.microVperm; split
  · rfl
  · split <;> rfl

@[simp] theorem State.rcopyWrite_build : s.rcopyWrite.build = s.build := by
  unfold State.rcopyWrite; split
  · rfl
  · split <;> rfl

@[simp] theorem State.microRcopy_build : s.microRcopy.build = s.build := by
  unfold State.microRcopy; split <;> exact s.rcopyWrite_build

theorem State.microNext_build (ent : Option Byte) : (s.microNext ent).build = s.build := by
  unfold State.microNext; split <;> simp

@[simp] theorem State.responseEdge_build (p : Pins) : (s.responseEdge p).build = s.build := by
  unfold State.responseEdge; split <;> rfl

end

theorem microStep_keeps_build (ent : Option Byte) (s : State) : Keeps State.build s (microStep ent s) :=
  .ite (.next rfl) (.ite (.next (s.microNext_build ent)) (.fault _))

theorem advance_keeps_build (s : State) : Keeps State.build s (advance s) :=
  .ite ((microStep_keeps_build _ _).trans (drawByte_build s)) (microStep_keeps_build none s)

/-! ### Starting a command -/

/-- The commands with phases of their own enter the first of them or answer an early error; the others are carried out whole
(45_sequencer_fsm.md R253). -/
theorem startCommand_keeps_build (i : Instr) (s : State) : Keeps State.build s (startCommand i s) := by
  cases i with
  | seed => exact .ite (.next rfl) (.next rfl)
  | aseed => exact .next rfl
  | next => exact .ite (.next rfl) (.next rfl)
  | word => exact .ite (.next rfl) (.next rfl)
  | snap => exact .ite (.next rfl) (.next rfl)
  | rstr => exact .next rfl
  | nop => exact exec_keeps_build .nop s
  | init => exact exec_keeps_build .init s
  | kclr => exact exec_keeps_build .kclr s
  | keyb b => exact exec_keeps_build (.keyb b) s
  | ldbeg => exact exec_keeps_build .ldbeg s
  | ldsym v => exact exec_keeps_build (.ldsym v) s
  | shrd a => exact exec_keeps_build (.shrd a) s
  | rdcsr n => exact exec_keeps_build (.rdcsr n) s
  | clre => exact exec_keeps_build .clre s

theorem startWord_keeps_build (w : CmdWord) (s : State) : Keeps State.build s (startWord w s) := by
  unfold startWord
  split
  · exact (startCommand_keeps_build _ _).trans rfl
  · exact .next rfl

/-! ### Steps and clock edges -/

theorem step_keeps_build (s : State) : Keeps State.build s (step s) := by
  intro t h
  obtain ⟨-, ha⟩ | ⟨-, -, rfl⟩ | ⟨-, -, -, rfl⟩ | ⟨-, -, w, rest, -, hw⟩ := step_cases h
  · exact advance_keeps_build s t ha
  · rfl
  · rfl
  · exact runWord_keeps_build w (s.acceptWord w) t hw

/-- Every edge, the pin reset included: `rst` leaves the reset state of the same build. -/
theorem clockEdge_keeps_build (p : Pins) (s : State) : Keeps State.build s (clockEdge p s) :=
  .ite (.next rfl) <|
  .ite ((microStep_keeps_build _ _).trans (s.responseEdge_build p)) <|
  .ite (.next (s.responseEdge_build p)) <|
  .ite (startWord_keeps_build p.cmd s) (.next rfl)

/-- Settles O31: every transition a step or an edge is made of keeps the build. -/
theorem buildNeverChanges : Obligations.BuildNeverChanges :=
  ⟨step_keeps_build, clockEdge_keeps_build⟩

end Sys2Proof.Machine
end

section
/-!
PROOFS. A step between commands, one equation per case (10_state.md R45, 45_sequencer_fsm.md R253): a waiting response is taken,
else the next word is run, else nothing happens. Later proofs about steps use these equations.
-/

namespace Sys2Proof.Machine

variable {s : State}

theorem step_of_waiting (hp : s.PH = .idle) (hr : s.RV = true) : step s = .next s.takeResponse := by
  simp [step, hp, hr]

theorem step_of_no_word (hp : s.PH = .idle) (hr : s.RV = false) (hc : s.cmdIn = []) : step s = .next s := by
  simp [step, hp, hr, hc]

theorem step_of_word {w : CmdWord} {rest : List CmdWord} (hp : s.PH = .idle) (hr : s.RV = false)
    (hc : s.cmdIn = w :: rest) : step s = runWord w (s.acceptWord w) := by
  simp [step, hp, hr, hc]

theorem runWord_of_decode {w : CmdWord} {i : Instr} (hd : decode w = .ok i) (s : State) : runWord w s = exec i s := by
  simp only [runWord, hd]

theorem runWord_of_illegal {w : CmdWord} {e : Illegal} (hd : decode w = .error e) (s : State) :
    runWord w s = .next (s.errored .eIllegal 0#32) := by
  simp only [runWord, hd]
  exact raise_eq _ _ _ (by decide)

/-- Settles O6, by the two cases of a step in which no word is accepted. -/
theorem stepBetweenCommands : Obligations.StepBetweenCommands :=
  ⟨fun _ hp hr => step_of_waiting hp hr, fun _ hp hr hc => step_of_no_word hp hr hc⟩

end Sys2Proof.Machine
end

section
/-!
PROOFS. Bijections of `0 .. N-1` (10_state.md R24): an exchange of two entries keeps one, the identity is one, and so is every
assignment of different values in range. So the key schedule gives a bijective table, and a shadow image that passes RSTR's
checks holds one.
-/

namespace Sys2Proof.Machine

theorem equivSwap_lt {n x y : Nat} (hx : x < n) (hy : y < n) {a : Nat} (ha : a < n) : Equiv.swap x y a < n := by
  rw [Equiv.swap_apply_def]
  split
  · exact hy
  · split
    · exact hx
    · exact ha

theorem Bijective.congr {n : Nat} {f g : Nat → Nat} (h : Bijective n f) (hfg : ∀ a, a < n → g a = f a) : Bijective n g := by
  intro v hv
  obtain ⟨a, ha, hfa, hu⟩ := h v hv
  exact ⟨a, ha, (hfg a ha).trans hfa, fun c hc hgc => hu c hc ((hfg c hc).symm.trans hgc)⟩

theorem bijective_id (n : Nat) : Bijective n id := fun v hv => ⟨v, hv, rfl, fun _ _ h => h⟩

/-- Exchanging two entries of a bijection: `v` is found where the exchange took its old place. -/
theorem Bijective.comp_swap {n : Nat} {f : Nat → Nat} (h : Bijective n f) {x y : Nat} (hx : x < n) (hy : y < n) :
    Bijective n (f ∘ Equiv.swap x y) := by
  intro v hv
  obtain ⟨a, ha, hfa, hu⟩ := h v hv
  refine ⟨Equiv.swap x y a, equivSwap_lt hx hy ha, by simp [hfa], fun c hc hfc => ?_⟩
  have hca : Equiv.swap x y c = a := hu _ (equivSwap_lt hx hy hc) hfc
  rw [← hca, Equiv.swap_apply_self]

/-- Different values in range, one for each place, take every value: an injective map of a finite set to itself is onto. -/
theorem bijective_of_injOn {n : Nat} {f : Nat → Nat} (hlt : ∀ a, a < n → f a < n)
    (hinj : ∀ a c, a < n → c < n → f a = f c → a = c) : Bijective n f := by
  let g : Fin n → Fin n := fun a => ⟨f a, hlt a a.isLt⟩
  have hg : Function.Injective g := fun a c hac => Fin.ext (hinj a c a.isLt c.isLt (congrArg Fin.val hac))
  intro v hv
  obtain ⟨a, ha⟩ := Finite.surjective_of_injective hg ⟨v, hv⟩
  have hfa : f a = v := congrArg Fin.val ha
  exact ⟨a, a.isLt, hfa, fun c hc hfc => hinj c a hc a.isLt (hfc.trans hfa.symm)⟩

theorem tableBijective_identityTable (b : Build) : TableBijective b (identityTable b) :=
  (bijective_id b.N).congr (elem_identityTable b)

theorem TableBijective.swap {b : Build} {T : Memory} (h : TableBijective b T) {x y : Nat} (hx : x < b.N) (hy : y < b.N) :
    TableBijective b (swap b .S T x y) := by
  refine (h.comp_swap hx hy).congr fun a _ => ?_
  simp only [elem_swap, Function.comp_apply, Equiv.swap_apply_def, apply_ite (elem b .S T)]

theorem tableBijective_ksa (b : Build) (key : List Byte) : TableBijective b (ksa b key) :=
  ksa_induction (tableBijective_identityTable b) (fun _ _ _ hx hy h => h.swap hx hy) key

theorem State.shadowTable_bijective {s : State} (h : s.shadowIsPermutation = true) :
    Bijective s.build.N fun k => (elem s.build .SH s.SH (k + 2)).toNat := by
  have hnd : s.shadowTable.Nodup := of_decide_eq_true h
  refine bijective_of_injOn (fun k _ => elem_SH_lt _ _ _) fun a c ha hc hac => ?_
  exact List.inj_on_of_nodup_map hnd (List.mem_range.mpr ha) (List.mem_range.mpr hc) (BitVec.eq_of_toNat_eq hac)

theorem tableBijective_installImage {s : State} (h : s.shadowIsPermutation = true) :
    TableBijective s.build s.installImage.S := by
  refine (State.shadowTable_bijective h).congr fun a ha => ?_
  rw [State.installImage_S, elem_fill, if_pos ha]
  exact congrArg BitVec.toNat (narrow_elem s.build .SH s.SH (a + 2))

/-! ### The live state -/

/-- What the invariant asks of the live state of a seeded block (10_state.md R24, R52, R54). -/
structure LiveOk (b : Build) (l : Live) : Prop where
  bijective : TableBijective b l.S
  i_lt : l.I.toNat < b.N
  j_lt : l.J.toNat < b.N
  s_ok : MemoryOk b .S l.S
  s_written : Written l.S b.N

theorem LiveOk.stepLive {b : Build} {l : Live} (h : LiveOk b l) : LiveOk b (stepLive b l) where
  bijective := h.bijective.swap (low_lt b _) (low_lt b _)
  i_lt := low_lt b _
  j_lt := low_lt b _
  s_ok := h.s_ok.swap (low_lt b _) (low_lt b _)
  s_written := h.s_written.swap b .S _ _

theorem LiveOk.stepMany {b : Build} {l : Live} (h : LiveOk b l) (n : Nat) (e : Data) : LiveOk b (stepMany b n l e).1 :=
  stepMany_induction (P := LiveOk b) (fun _ hl => hl.stepLive) n l e h

end Sys2Proof.Machine
end

section
/-!
PROOFS. The invariant of the states between commands (10_state.md R54, R24, R52): it holds at reset, every named update of the
state that a command is made of keeps it, so every command and every step keeps it.
-/

namespace Sys2Proof.Machine

theorem Code.bits_range {c : Code} (hc : c ≠ .ok) : 1 ≤ c.bits.toNat ∧ c.bits.toNat ≤ 5 := by
  cases c with
  | ok => exact absurd rfl hc
  | eSeed | eState | eUnseeded | eIndex | eIllegal => decide

variable {s : State}

theorem State.restoreReason_eq_none (h : s.restoreReason = none) :
    s.LDOVF = false ∧ s.CNT = s.build.IMG_LEN ∧ s.LDBAD = false ∧ s.shadowIsPermutation = true := by
  unfold State.restoreReason at h
  split_ifs at h with ho hc hb hp
  exact ⟨by simpa using ho, not_not.mp hc, by simpa using hb, hp⟩

/-! ### The updates -/

/-- Soft reset gives the invariant whatever the block held. -/
theorem inv_softReset (hb : s.build.wellFormed = true) (hp : s.PH = .idle) : Inv s.softReset where
  build_ok := hb
  idle := hp
  klen_le := Nat.zero_le _
  cnt_le := Nat.zero_le _
  ldovf_full := nofun
  ktrunc_full := nofun
  no_err := fun _ => rfl
  err := nofun
  bijective := nofun
  i_lt := Build.N_pos _
  j_lt := Build.N_pos _
  s_ok := memoryOk_nil _ _
  k_ok := memoryOk_nil _ _
  sh_ok := memoryOk_nil _ _
  s_written := nofun
  k_written := written_zero _
  sh_written := written_zero _

namespace Inv

theorem takeResponse (h : Inv s) : Inv s.takeResponse := { h with }

theorem acceptWord (h : Inv s) (w : CmdWord) : Inv (s.acceptWord w) := { h with }

theorem answered (h : Inv s) (c : Code) (d : Data) : Inv (s.answered c d) := { h with idle := rfl }

theorem errored (h : Inv s) {c : Code} (hc : c ≠ .ok) (d : Data) : Inv (s.errored c d) :=
  { h with idle := rfl, no_err := nofun, err := fun _ => Code.bits_range hc }

theorem clearError (h : Inv s) : Inv s.clearError := { h with no_err := fun _ => rfl, err := nofun }

theorem clearKey (h : Inv s) : Inv s.clearKey :=
  { h with klen_le := Nat.zero_le _, ktrunc_full := nofun, k_written := written_zero _ }

theorem appendKey (h : Inv s) (hroom : s.KLEN < s.build.KMAX) (v : Byte) : Inv (s.appendKey v) :=
  { h with
    klen_le := hroom
    ktrunc_full := fun ht => absurd (h.ktrunc_full ht) hroom.ne
    k_ok := h.k_ok.put hroom v
    k_written := h.k_written.put_next _ _ v }

theorem dropKeyByte (h : Inv s) (hfull : ¬ s.KLEN < s.build.KMAX) : Inv { s with KTRUNC := true } :=
  { h with ktrunc_full := fun _ => h.klen_le.antisymm (not_lt.mp hfull) }

theorem setCount_zero (h : Inv s) : Inv (s.setCount 0) :=
  { h with cnt_le := Nat.zero_le _, ldovf_full := nofun, sh_written := written_zero _ }

theorem appendSymbol (h : Inv s) (hroom : s.CNT < s.build.IMG_LEN) (v : BitVec 12) : Inv (s.appendSymbol v) :=
  { h with
    cnt_le := hroom
    ldovf_full := fun ho => absurd (h.ldovf_full ho) hroom.ne
    sh_ok := h.sh_ok.put hroom _
    sh_written := h.sh_written.put_next _ _ _ }

theorem dropSymbol (h : Inv s) (hfull : ¬ s.CNT < s.build.IMG_LEN) : Inv { s with LDOVF := true } :=
  { h with ldovf_full := fun _ => h.cnt_le.antisymm (not_lt.mp hfull) }

theorem drawBytes (h : Inv s) (n : Nat) : Inv (State.drawBytes n s).2 := by
  rw [(drawBytes_spec n s).2.1]
  exact { h with }

theorem seedWith (h : Inv s) (key : List Byte) : Inv (s.seedWith key) :=
  { h with
    klen_le := Nat.zero_le _
    ktrunc_full := nofun
    bijective := fun _ => tableBijective_ksa _ key
    i_lt := Build.N_pos _
    j_lt := Build.N_pos _
    s_ok := memoryOk_ksa _ key
    k_ok := memoryOk_nil _ _
    s_written := fun _ => written_ksa _ key
    k_written := written_zero _ }

theorem live (h : Inv s) (hs : s.SEEDED = true) : LiveOk s.build s.live :=
  ⟨h.bijective hs, h.i_lt, h.j_lt, h.s_ok, h.s_written hs⟩

theorem setLive (h : Inv s) {l : Live} (hl : LiveOk s.build l) : Inv (s.setLive l) :=
  { h with
    bijective := fun _ => hl.bijective
    i_lt := hl.i_lt
    j_lt := hl.j_lt
    s_ok := hl.s_ok
    s_written := fun _ => hl.s_written }

theorem captureImage (h : Inv s) : Inv s.captureImage :=
  { h with
    cnt_le := le_rfl
    ldovf_full := nofun
    sh_ok := h.sh_ok.fill le_rfl _
    sh_written := written_fill _ _ _ _ _ }

theorem installImage (h : Inv s) (hp : s.shadowIsPermutation = true) : Inv s.installImage :=
  { h with
    bijective := fun _ => tableBijective_installImage hp
    i_lt := elem_SH_lt _ _ _
    j_lt := elem_SH_lt _ _ _
    s_ok := h.s_ok.fill le_rfl _
    s_written := fun _ => written_fill _ _ _ _ _ }

end Inv

/-! ### Commands and steps -/

theorem exec_keeps_inv (i : Instr) (h : Inv s) : ∃ t, exec i s = .next t ∧ Inv t := by
  cases i with
  | nop => exact ⟨_, exec_nop s, h.answered _ _⟩
  | init => exact ⟨_, exec_init s, (inv_softReset h.build_ok h.idle).answered _ _⟩
  | kclr => exact ⟨_, exec_kclr s, h.clearKey.answered _ _⟩
  | keyb b =>
    by_cases hk : s.KLEN < s.build.KMAX
    · exact ⟨_, exec_keyb_room b s hk, (h.appendKey hk b).answered _ _⟩
    · exact ⟨_, exec_keyb_full b s hk, (h.dropKeyByte hk).answered _ _⟩
  | seed =>
    by_cases hk : s.KLEN = 0
    · exact ⟨_, exec_seed_empty s hk, h.errored (by decide) _⟩
    · exact ⟨_, exec_seed_key s hk, (h.seedWith _).answered _ _⟩
  | aseed => exact ⟨_, exec_aseed s, ((h.clearKey.drawBytes _).seedWith _).answered _ _⟩
  | next =>
    cases hs : s.SEEDED with
    | false => exact ⟨_, exec_next_unseeded s hs, h.errored (by decide) _⟩
    | true => exact ⟨_, exec_next_seeded s hs, (h.setLive (h.live hs).stepLive).answered _ _⟩
  | word =>
    cases hs : s.SEEDED with
    | false => exact ⟨_, exec_word_unseeded s hs, h.errored (by decide) _⟩
    | true => exact ⟨_, exec_word_seeded s hs, (h.setLive ((h.live hs).stepMany _ _)).answered _ _⟩
  | snap =>
    cases hs : s.SEEDED with
    | false => exact ⟨_, exec_snap_unseeded s hs, h.errored (by decide) _⟩
    | true => exact ⟨_, exec_snap_seeded s hs, h.captureImage.answered _ _⟩
  | shrd a =>
    cases ha : s.shadowIndexValid a with
    | false => exact ⟨_, exec_shrd_invalid a s ha, h.errored (by decide) _⟩
    | true => exact ⟨_, exec_shrd_valid a s ha, h.answered _ _⟩
  | ldbeg => exact ⟨_, exec_ldbeg s, h.setCount_zero.answered _ _⟩
  | ldsym v =>
    by_cases hc : s.CNT < s.build.IMG_LEN
    · exact ⟨_, exec_ldsym_room v s hc, (h.appendSymbol hc v).answered _ _⟩
    · exact ⟨_, exec_ldsym_full v s hc, (h.dropSymbol hc).answered _ _⟩
  | rstr =>
    cases hr : s.restoreReason with
    | some r => exact ⟨_, exec_rstr_invalid s r hr, h.errored (by decide) _⟩
    | none =>
      obtain ⟨-, -, -, hp⟩ := State.restoreReason_eq_none hr
      exact ⟨_, exec_rstr_valid s hr, (h.installImage hp).answered _ _⟩
  | rdcsr n =>
    by_cases hn : n.toNat ≤ 3
    · exact ⟨_, exec_rdcsr_valid n s hn, h.answered _ _⟩
    · exact ⟨_, exec_rdcsr_invalid n s hn, h.errored (by decide) _⟩
  | clre => exact ⟨_, exec_clre s, h.clearError.answered _ _⟩

theorem runWord_keeps_inv (w : CmdWord) (h : Inv s) : ∃ t, runWord w s = .next t ∧ Inv t := by
  cases hd : decode w with
  | ok i => rw [runWord_of_decode hd]; exact exec_keeps_inv i h
  | error e => exact ⟨_, runWord_of_illegal hd s, h.errored (by decide) _⟩

/-- Settles O34: between commands a step takes a response, does nothing, or runs a word, and each keeps the invariant. -/
theorem stepKeepsInvariant : Obligations.StepKeepsInvariant := by
  intro s t h hst
  obtain ⟨hp, -⟩ | ⟨-, -, rfl⟩ | ⟨-, -, -, rfl⟩ | ⟨-, -, w, rest, -, hw⟩ := step_cases hst
  · exact absurd h.idle hp
  · exact h.takeResponse
  · exact h
  · obtain ⟨u, hu, hinv⟩ := runWord_keeps_inv w (h.acceptWord w)
    cases hw.symm.trans hu
    exact hinv

/-! ### Reset -/

/-- A reset state is its own soft reset. -/
theorem inv_resetOf {b : Build} (hb : b.wellFormed = true) : Inv (State.resetOf b) :=
  inv_softReset (s := State.resetOf b) hb rfl

/-- Settles O33: reset leaves what soft reset leaves. -/
theorem invariantHoldsAtReset : Obligations.InvariantHoldsAtReset :=
  ⟨fun _ hb => inv_resetOf hb, rfl, inv_resetOf (by decide)⟩

/-- `ID` names the interface version and the width, whatever the block holds (10_state.md R38). -/
theorem csrID_eq (b : Build) : csrID b = BitVec.ofNat 32 (0x52430100 + b.W) := by
  unfold csrID Build.W
  cases b.width <;> decide

/-- After reset `STATUS` shows nothing but the hardwired `W4` (10_state.md R39, R50). -/
theorem csrSTATUS_resetOf (b : Build) :
    (State.resetOf b).csrSTATUS = if b.width = .w4 then 0x200#32 else 0#32 := by
  unfold State.csrSTATUS isW4
  cases hw : b.width <;> simp [State.resetOf, hw, flag]

/-- Settles O32, with the two registers that are not storage computed from the build. -/
theorem resetLeavesStatedValues : Obligations.ResetLeavesStatedValues := fun b =>
  ⟨State.resetOf b, rfl, rfl, rfl, rfl, rfl, rfl, rfl, rfl, rfl, rfl, rfl, rfl, rfl, rfl, csrID_eq b, csrSTATUS_resetOf b⟩

end Sys2Proof.Machine
end

section
/-!
PROOFS. The shadow bank and the live state are written by different commands (10_state.md R35).
-/

namespace Sys2Proof.Machine

/-- The shadow image with its count and flags (10_state.md R31 to R34). -/
def State.shadowBank (s : State) : Memory × Nat × Bool × Bool := (s.SH, s.CNT, s.LDBAD, s.LDOVF)

/-- The live state and whether it holds a value (10_state.md R20 to R23). -/
def State.liveBank (s : State) : Memory × Sym × Sym × Bool := (s.S, s.I, s.J, s.SEEDED)

theorem State.shadowBank_eq_iff (s t : State) :
    t.shadowBank = s.shadowBank ↔ t.SH = s.SH ∧ t.CNT = s.CNT ∧ t.LDBAD = s.LDBAD ∧ t.LDOVF = s.LDOVF := by
  simp only [State.shadowBank, Prod.mk.injEq]

theorem State.liveBank_eq_iff (s t : State) :
    t.liveBank = s.liveBank ↔ t.S = s.S ∧ t.I = s.I ∧ t.J = s.J ∧ t.SEEDED = s.SEEDED := by
  simp only [State.liveBank, Prod.mk.injEq]

theorem drawBytes_shadowBank (n : Nat) (s : State) : (State.drawBytes n s).2.shadowBank = s.shadowBank := by
  rw [(drawBytes_spec n s).2.1]
  rfl

/-- The commands on the key and the live state (10_state.md R35). -/
theorem exec_keeps_shadowBank {i : Instr} (hi : i ∈ [.kclr, .seed, .aseed, .next, .word] ∨ ∃ b, i = .keyb b) (s : State) :
    Keeps State.shadowBank s (exec i s) := by
  obtain hi | ⟨b, rfl⟩ := hi
  · simp only [List.mem_cons, List.not_mem_nil, or_false] at hi
    obtain rfl | rfl | rfl | rfl | rfl := hi
    · exact .next rfl
    · exact .ite (.next rfl) (.next rfl)
    · exact .next (drawBytes_shadowBank s.build.entLen s.clearKey)
    · exact .ite (.next rfl) (.next rfl)
    · exact .ite (.next rfl) (.next rfl)
  · exact .ite (.next rfl) (.next rfl)

theorem exec_ldbeg_keeps_liveBank (s : State) : Keeps State.liveBank s (exec .ldbeg s) := .next rfl

theorem exec_ldsym_keeps_liveBank (v : BitVec 12) (s : State) : Keeps State.liveBank s (exec (.ldsym v) s) :=
  .ite (.next rfl) (.next rfl)

theorem exec_shrd_keeps_liveBank (a : BitVec 12) (s : State) : Keeps State.liveBank s (exec (.shrd a) s) :=
  .ite (.next rfl) (.next rfl)

/-- A restore that is not answered OK was rejected, and a rejected one installs nothing. -/
theorem exec_rstr_failed {s t : State} (h : exec .rstr s = .next t) (hc : rspCode t.RSP ≠ 0#4) :
    ∃ r, t = s.errored .eState r := by
  cases hr : s.restoreReason with
  | some r =>
    rw [exec_rstr_invalid s r hr] at h
    cases h
    exact ⟨r, rfl⟩
  | none =>
    rw [exec_rstr_valid s hr] at h
    cases h
    exact absurd (rspCode_rspWord .ok 0#32) hc

/-- Settles O29: no command of the one list writes the shadow bank, none of the other the live state. -/
theorem shadowAndLiveAreIndependent : Obligations.ShadowAndLiveAreIndependent := by
  refine ⟨fun i s t h hi => (s.shadowBank_eq_iff t).mp (exec_keeps_shadowBank hi s t h), fun i s t h hi => ?_⟩
  rw [← State.liveBank_eq_iff]
  obtain rfl | ⟨v, rfl⟩ | ⟨a, rfl⟩ | ⟨rfl, hc⟩ := hi
  · exact exec_ldbeg_keeps_liveBank s t h
  · exact exec_ldsym_keeps_liveBank v s t h
  · exact exec_shrd_keeps_liveBank a s t h
  · obtain ⟨r, rfl⟩ := exec_rstr_failed h hc
    rfl

end Sys2Proof.Machine
end

section
/-!
PROOFS. Storage that holds no valid value is never read (10_state.md R52): what a command reads of two states that differ only
there is the same, and every named update keeps them so. Hence no response tells them apart (00_scope.md R16), and a block after
INIT is one of those that cannot be told from a block after reset (R53).
-/

namespace Sys2Proof.Machine

/-! ### The step on tables that agree -/

theorem nextI_lt (b : Build) (l : Live) : (nextI b l).toNat < b.N := low_lt b _

theorem nextJ_lt (b : Build) (l : Live) : (nextJ b l).toNat < b.N := low_lt b _

/-- Two live states of the build `b` with the same cursors and the same `N` table entries. -/
structure LiveSame (b : Build) (l m : Live) : Prop where
  i_eq : l.I = m.I
  j_eq : l.J = m.J
  table : ∀ a, a < b.N → elem b .S l.S a = elem b .S m.S a

namespace LiveSame

variable {b : Build} {l m : Live}

theorem nextI (h : LiveSame b l m) : nextI b l = nextI b m := by
  simp only [Machine.nextI, h.i_eq]

theorem nextJ (h : LiveSame b l m) : nextJ b l = nextJ b m := by
  rw [Machine.nextJ, Machine.nextJ, h.j_eq, h.nextI, h.table _ (nextI_lt b m)]

theorem nextS (h : LiveSame b l m) {a : Nat} (ha : a < b.N) : elem b .S (nextS b l) a = elem b .S (nextS b m) a := by
  simp only [elem_nextS, h.nextI, h.nextJ, h.table _ (nextI_lt b m), h.table _ (nextJ_lt b m), h.table a ha]

theorem stepLive (h : LiveSame b l m) : LiveSame b (stepLive b l) (stepLive b m) :=
  ⟨h.nextI, h.nextJ, fun _ ha => h.nextS ha⟩

theorem stepOut (h : LiveSame b l m) : stepOut b l = stepOut b m := by
  unfold Machine.stepOut
  rw [h.nextI, h.nextJ, h.nextS (nextI_lt b m), h.nextS (nextJ_lt b m), h.nextS (low_lt b _)]

theorem stepMany (n : Nat) (h : LiveSame b l m) (e : Data) :
    LiveSame b (stepMany b n l e).1 (stepMany b n m e).1 ∧ (stepMany b n l e).2 = (stepMany b n m e).2 := by
  induction n generalizing l m e with
  | zero => exact ⟨h, rfl⟩
  | succ n ih =>
    simp only [Machine.stepMany, h.stepOut]
    exact ih h.stepLive _

end LiveSame

/-! ### The entropy draw -/

theorem drawByte_congr {s t : State} (he : s.entIn = t.entIn) (hd : s.draws = t.draws) :
    s.drawByte.1 = t.drawByte.1 ∧ s.drawByte.2.entIn = t.drawByte.2.entIn ∧ s.drawByte.2.draws = t.drawByte.2.draws := by
  cases ht : t.entIn with
  | nil => simp [State.drawByte, he, ht, hd]
  | cons v rest => simp [State.drawByte, he, ht, hd]

/-- The bytes drawn, and what is left of the source, depend on the source alone. -/
theorem drawBytes_congr (n : Nat) {s t : State} (he : s.entIn = t.entIn) (hd : s.draws = t.draws) :
    (State.drawBytes n s).1 = (State.drawBytes n t).1 ∧
      (State.drawBytes n s).2.entIn = (State.drawBytes n t).2.entIn ∧
      (State.drawBytes n s).2.draws = (State.drawBytes n t).2.draws := by
  induction n generalizing s t with
  | zero => exact ⟨rfl, he, hd⟩
  | succ n ih =>
    obtain ⟨hv, he', hd'⟩ := drawByte_congr he hd
    obtain ⟨hvs, hes, hds⟩ := ih he' hd'
    exact ⟨by simp only [State.drawBytes, hv, hvs], hes, hds⟩

/-- Two soft resets are alike whatever the two blocks held, if they share the build, the response slot and the outside. -/
theorem sameVisible_softReset {s t : State} (hb : s.build = t.build) (hps : s.PH = .idle) (hpt : t.PH = .idle)
    (hrv : s.RV = t.RV) (hrsp : s.RV = true → s.RSP = t.RSP) (hc : s.cmdIn = t.cmdIn) (he : s.entIn = t.entIn)
    (hd : s.draws = t.draws) : SameVisible s.softReset t.softReset where
  build := hb
  idle_left := hps
  idle_right := hpt
  seeded := rfl
  cursors := nofun
  table := nofun
  klen := rfl
  key := nofun
  ktrunc := rfl
  cnt := rfl
  shadow := nofun
  ldbad := rfl
  ldovf := rfl
  err := rfl
  lasterr := rfl
  rv := hrv
  rsp := hrsp
  cmdIn := hc
  entIn := he
  draws := hd

namespace SameVisible

variable {s t : State}

/-! ### What a command reads -/

theorem live (h : SameVisible s t) (hs : s.SEEDED = true) : LiveSame s.build s.live t.live where
  i_eq := (h.cursors hs).1
  j_eq := (h.cursors hs).2
  table := fun a ha => by
    have heq := h.table hs a ha
    rw [State.tableAt, State.tableAt, ← h.build] at heq
    exact BitVec.eq_of_toNat_eq heq

theorem elem_shadow (h : SameVisible s t) {a : Nat} (ha : a < s.CNT) :
    elem s.build .SH s.SH a = elem t.build .SH t.SH a :=
  BitVec.eq_of_toNat_eq (h.shadow a ha)

theorem key_bytes (h : SameVisible s t) : s.key = t.key := by
  unfold State.key
  rw [← h.klen]
  exact List.map_congr_left fun a ha => h.key a (List.mem_range.mp ha)

theorem imageAt (h : SameVisible s t) (hs : s.SEEDED = true) {p : Nat} (hp : p < s.build.IMG_LEN) :
    s.imageAt p = t.imageAt p := by
  unfold State.imageAt
  split
  · exact (h.cursors hs).1
  · split
    · exact (h.cursors hs).2
    · exact BitVec.eq_of_toNat_eq (h.table hs (p - 2) (by unfold Build.IMG_LEN at hp; omega))

theorem csr (h : SameVisible s t) (n : BitVec 12) : s.csr n = t.csr n := by
  simp only [State.csr, State.csrSTATUS, State.csrKLEN, State.csrCNT, h.build, h.ldovf, h.ldbad, h.ktrunc, h.seeded, h.err,
    h.lasterr, h.klen, h.cnt]

theorem shadowIndexValid (h : SameVisible s t) (a : BitVec 12) : s.shadowIndexValid a = t.shadowIndexValid a := by
  simp only [State.shadowIndexValid, h.build, h.cnt]

theorem shadowTable (h : SameVisible s t) (hc : s.CNT = s.build.IMG_LEN) : s.shadowTable = t.shadowTable := by
  unfold State.shadowTable
  rw [← h.build]
  refine List.map_congr_left fun k hk => ?_
  have hk : k + 2 < s.CNT := by rw [hc]; exact Nat.add_lt_add_right (List.mem_range.mp hk) 2
  simpa only [h.build] using h.elem_shadow hk

theorem shadowIsPermutation (h : SameVisible s t) (hc : s.CNT = s.build.IMG_LEN) :
    s.shadowIsPermutation = t.shadowIsPermutation := by
  rw [State.shadowIsPermutation, h.shadowTable hc, State.shadowIsPermutation]

/-- The permutation check comes after the check of `CNT`, so it reads loaded symbols only. -/
theorem restoreReason (h : SameVisible s t) : s.restoreReason = t.restoreReason := by
  unfold State.restoreReason
  rw [← h.ldovf, ← h.cnt, ← h.build, ← h.ldbad]
  by_cases hc : s.CNT = s.build.IMG_LEN
  · rw [h.shadowIsPermutation hc]
  · simp only [if_pos hc]

theorem observed (h : SameVisible s t) : s.observed = t.observed := by
  unfold State.observed
  by_cases hr : s.RV = true
  · rw [if_pos ⟨h.idle_left, hr⟩, if_pos ⟨h.idle_right, h.rv ▸ hr⟩, h.rsp hr]
  · rw [if_neg fun hc => hr hc.2, if_neg fun hc => hr (h.rv.trans hc.2)]

/-! ### The updates -/

theorem takeResponse (h : SameVisible s t) : SameVisible s.takeResponse t.takeResponse :=
  { h with rv := rfl, rsp := nofun }

theorem acceptWord (h : SameVisible s t) (w : CmdWord) : SameVisible (s.acceptWord w) (t.acceptWord w) :=
  { h with cmdIn := congrArg List.tail h.cmdIn }

theorem answered (h : SameVisible s t) (c : Code) (d : Data) : SameVisible (s.answered c d) (t.answered c d) :=
  { h with idle_left := rfl, idle_right := rfl, rv := rfl, rsp := fun _ => rfl }

theorem errored (h : SameVisible s t) (c : Code) (d : Data) : SameVisible (s.errored c d) (t.errored c d) :=
  { h with idle_left := rfl, idle_right := rfl, err := rfl, lasterr := rfl, rv := rfl, rsp := fun _ => rfl }

theorem softReset (h : SameVisible s t) : SameVisible s.softReset t.softReset :=
  sameVisible_softReset h.build h.idle_left h.idle_right h.rv h.rsp h.cmdIn h.entIn h.draws

theorem clearError (h : SameVisible s t) : SameVisible s.clearError t.clearError := { h with err := rfl, lasterr := rfl }

theorem clearKey (h : SameVisible s t) : SameVisible s.clearKey t.clearKey :=
  { h with klen := rfl, key := nofun, ktrunc := rfl }

theorem appendKey (h : SameVisible s t) (v : Byte) : SameVisible (s.appendKey v) (t.appendKey v) :=
  { h with
    klen := congrArg (· + 1) h.klen
    key := fun a ha => by
      have hlt : a < s.KLEN + 1 := ha
      simp only [State.keyByteAt, State.appendKey_build, State.appendKey_K, elem_put, ← h.klen]
      split
      · rfl
      · exact h.key a (by omega) }

theorem dropKeyByte (h : SameVisible s t) : SameVisible { s with KTRUNC := true } { t with KTRUNC := true } :=
  { h with ktrunc := rfl }

theorem setCount_zero (h : SameVisible s t) : SameVisible (s.setCount 0) (t.setCount 0) :=
  { h with cnt := rfl, shadow := nofun, ldbad := rfl, ldovf := rfl }

theorem appendSymbol (h : SameVisible s t) (v : BitVec 12) : SameVisible (s.appendSymbol v) (t.appendSymbol v) :=
  { h with
    cnt := congrArg (· + 1) h.cnt
    ldbad := by simp only [State.appendSymbol_LDBAD, h.ldbad, h.build]
    shadow := fun a ha => by
      have hlt : a < s.CNT + 1 := ha
      simp only [State.shadowAt, State.appendSymbol_build, State.appendSymbol_SH, elem_put, ← h.cnt]
      split
      · rw [h.build]
      · exact h.shadow a (by omega) }

theorem dropSymbol (h : SameVisible s t) : SameVisible { s with LDOVF := true } { t with LDOVF := true } :=
  { h with ldovf := rfl }

theorem drawBytes (h : SameVisible s t) (n : Nat) : SameVisible (State.drawBytes n s).2 (State.drawBytes n t).2 := by
  obtain ⟨-, he, hd⟩ := drawBytes_congr n h.entIn h.draws
  rw [(drawBytes_spec n s).2.1, (drawBytes_spec n t).2.1] at he ⊢
  exact { h with entIn := he, draws := hd }

theorem seedWith (h : SameVisible s t) (key : List Byte) : SameVisible (s.seedWith key) (t.seedWith key) :=
  { h with
    seeded := rfl
    cursors := fun _ => ⟨rfl, rfl⟩
    table := fun _ a _ => by simp only [State.tableAt, State.seedWith_build, State.seedWith_S, h.build]
    klen := rfl
    key := nofun
    ktrunc := rfl }

theorem setLive (h : SameVisible s t) {l m : Live} (hl : LiveSame s.build l m) : SameVisible (s.setLive l) (t.setLive m) :=
  { h with
    cursors := fun _ => ⟨hl.i_eq, hl.j_eq⟩
    table := fun _ a ha => by
      simp only [State.tableAt, State.setLive_build, State.setLive_S, ← h.build, hl.table a ha] }

theorem captureImage (h : SameVisible s t) (hs : s.SEEDED = true) : SameVisible s.captureImage t.captureImage :=
  { h with
    cnt := congrArg Build.IMG_LEN h.build
    ldbad := rfl
    ldovf := rfl
    shadow := fun a ha => by
      have hlt : a < s.build.IMG_LEN := ha
      simp only [State.shadowAt, State.captureImage_build, State.captureImage_SH, elem_fill, ← h.build, if_pos hlt,
        h.imageAt hs hlt] }

theorem installImage (h : SameVisible s t) (hc : s.CNT = s.build.IMG_LEN) : SameVisible s.installImage t.installImage := by
  have hread (k : Nat) (hk : k < s.build.N + 2) : elem s.build .SH s.SH k = elem t.build .SH t.SH k :=
    h.elem_shadow (hc ▸ hk)
  have hN := Build.N_pos s.build
  exact
    { h with
      seeded := rfl
      cursors := fun _ => ⟨hread 0 (by omega), hread 1 (by omega)⟩
      table := fun _ a ha => by
        have hlt : a < s.build.N := ha
        simp only [State.tableAt, State.installImage_build, State.installImage_S, elem_fill, if_pos hlt,
          if_pos (h.build ▸ hlt : a < t.build.N), hread (a + 2) (by omega)]
        rw [h.build] }

end SameVisible

/-! ### Commands and steps -/

/-- The outcomes of two transitions are next states that cannot be told apart. -/
inductive SameNext (o o' : Host.Outcome State Fault Refusal) : Prop where
  | intro {s t : State} (left : o = .next s) (right : o' = .next t) (same : SameVisible s t)

variable {s t : State}

theorem exec_keeps_sameVisible (i : Instr) (h : SameVisible s t) : SameNext (exec i s) (exec i t) := by
  cases i with
  | nop => exact .intro (exec_nop s) (exec_nop t) (h.answered _ _)
  | init => exact .intro (exec_init s) (exec_init t) (h.softReset.answered _ _)
  | kclr => exact .intro (exec_kclr s) (exec_kclr t) (h.clearKey.answered _ _)
  | keyb b =>
    have hlt : s.KLEN < s.build.KMAX ↔ t.KLEN < t.build.KMAX := by rw [h.klen, h.build]
    by_cases hk : s.KLEN < s.build.KMAX
    · exact .intro (exec_keyb_room b s hk) (exec_keyb_room b t (hlt.mp hk)) ((h.appendKey b).answered _ _)
    · exact .intro (exec_keyb_full b s hk) (exec_keyb_full b t (hk ∘ hlt.mpr)) (h.dropKeyByte.answered _ _)
  | seed =>
    by_cases hk : s.KLEN = 0
    · exact .intro (exec_seed_empty s hk) (exec_seed_empty t (h.klen ▸ hk)) (h.errored _ _)
    · exact .intro (exec_seed_key s hk) (exec_seed_key t (h.klen ▸ hk))
        (by rw [h.key_bytes]; exact (h.seedWith _).answered _ _)
  | aseed =>
    refine .intro (exec_aseed s) (exec_aseed t) ?_
    obtain ⟨hv, -, -⟩ := drawBytes_congr s.build.entLen h.clearKey.entIn h.clearKey.draws
    rw [hv, ← h.build]
    exact ((h.clearKey.drawBytes _).seedWith _).answered _ _
  | next =>
    cases hs : s.SEEDED with
    | false => exact .intro (exec_next_unseeded s hs) (exec_next_unseeded t (h.seeded ▸ hs)) (h.errored _ _)
    | true =>
      refine .intro (exec_next_seeded s hs) (exec_next_seeded t (h.seeded ▸ hs)) ?_
      rw [← h.build, (h.live hs).stepOut]
      exact (h.setLive (h.live hs).stepLive).answered _ _
  | word =>
    cases hs : s.SEEDED with
    | false => exact .intro (exec_word_unseeded s hs) (exec_word_unseeded t (h.seeded ▸ hs)) (h.errored _ _)
    | true =>
      refine .intro (exec_word_seeded s hs) (exec_word_seeded t (h.seeded ▸ hs)) ?_
      obtain ⟨hl, he⟩ := (h.live hs).stepMany s.build.WORD_STEPS 0#32
      rw [← h.build, he]
      exact (h.setLive hl).answered _ _
  | snap =>
    cases hs : s.SEEDED with
    | false => exact .intro (exec_snap_unseeded s hs) (exec_snap_unseeded t (h.seeded ▸ hs)) (h.errored _ _)
    | true => exact .intro (exec_snap_seeded s hs) (exec_snap_seeded t (h.seeded ▸ hs)) ((h.captureImage hs).answered _ _)
  | shrd a =>
    cases ha : s.shadowIndexValid a with
    | false =>
      exact .intro (exec_shrd_invalid a s ha) (exec_shrd_invalid a t (h.shadowIndexValid a ▸ ha)) (h.errored _ _)
    | true =>
      have hlt : a.toNat < s.CNT := by simp only [State.shadowIndexValid, Bool.and_eq_true, decide_eq_true_eq] at ha; exact ha.1
      refine .intro (exec_shrd_valid a s ha) (exec_shrd_valid a t (h.shadowIndexValid a ▸ ha)) ?_
      rw [h.elem_shadow hlt]
      exact h.answered _ _
  | ldbeg => exact .intro (exec_ldbeg s) (exec_ldbeg t) (h.setCount_zero.answered _ _)
  | ldsym v =>
    have hlt : s.CNT < s.build.IMG_LEN ↔ t.CNT < t.build.IMG_LEN := by rw [h.cnt, h.build]
    by_cases hc : s.CNT < s.build.IMG_LEN
    · exact .intro (exec_ldsym_room v s hc) (exec_ldsym_room v t (hlt.mp hc)) ((h.appendSymbol v).answered _ _)
    · exact .intro (exec_ldsym_full v s hc) (exec_ldsym_full v t (hc ∘ hlt.mpr)) (h.dropSymbol.answered _ _)
  | rstr =>
    cases hr : s.restoreReason with
    | some r => exact .intro (exec_rstr_invalid s r hr) (exec_rstr_invalid t r (h.restoreReason ▸ hr)) (h.errored _ _)
    | none =>
      obtain ⟨-, hc, -, -⟩ := State.restoreReason_eq_none hr
      exact .intro (exec_rstr_valid s hr) (exec_rstr_valid t (h.restoreReason ▸ hr)) ((h.installImage hc).answered _ _)
  | rdcsr n =>
    by_cases hn : n.toNat ≤ 3
    · exact .intro (exec_rdcsr_valid n s hn) (exec_rdcsr_valid n t hn) (by rw [h.csr n]; exact h.answered _ _)
    · exact .intro (exec_rdcsr_invalid n s hn) (exec_rdcsr_invalid n t hn) (h.errored _ _)
  | clre => exact .intro (exec_clre s) (exec_clre t) (h.clearError.answered _ _)

theorem runWord_keeps_sameVisible (w : CmdWord) (h : SameVisible s t) : SameNext (runWord w s) (runWord w t) := by
  cases hd : decode w with
  | ok i => rw [runWord_of_decode hd, runWord_of_decode hd]; exact exec_keeps_sameVisible i h
  | error e => exact .intro (runWord_of_illegal hd s) (runWord_of_illegal hd t) (h.errored _ _)

/-- The step lemma of non-interference: both states step, and to states that cannot be told apart. -/
theorem step_keeps_sameVisible (h : SameVisible s t) : SameNext (step s) (step t) := by
  cases hr : s.RV with
  | true => exact .intro (step_of_waiting h.idle_left hr) (step_of_waiting h.idle_right (h.rv ▸ hr)) h.takeResponse
  | false =>
    have hrt : t.RV = false := h.rv ▸ hr
    cases hc : s.cmdIn with
    | nil => exact .intro (step_of_no_word h.idle_left hr hc) (step_of_no_word h.idle_right hrt (h.cmdIn ▸ hc)) h
    | cons w rest =>
      rw [step_of_word h.idle_left hr hc, step_of_word h.idle_right hrt (h.cmdIn ▸ hc)]
      exact runWord_keeps_sameVisible w (h.acceptWord w)

/-- Settles O57, by the step lemma; the response taken is the same because a waiting response is. -/
theorem stepKeepsSameVisible : Obligations.StepKeepsSameVisible := by
  intro s t s' h hs
  obtain ⟨hu, ht, h'⟩ := step_keeps_sameVisible h
  cases hs.symm.trans hu
  exact ⟨_, ht, h', h.observed⟩

/-- Settles O47, by induction on the number of steps with the step lemma. -/
theorem unspecifiedStorageIsUnobservable : Obligations.UnspecifiedStorageIsUnobservable := by
  intro s t n h
  induction n generalizing s t with
  | zero => rfl
  | succ n ih =>
    obtain ⟨hs, ht, h'⟩ := step_keeps_sameVisible h
    simp only [responses, hs, ht, h.observed, ih _ _ h']

/-- INIT and the reset pin both leave a soft reset, of one build and with one outside; neither leaves a response to take. -/
theorem sameVisible_init_reset (h : exec .init s = .next t) : SameVisible t.takeResponse t.resetByPin := by
  cases h
  exact sameVisible_softReset (s := (s.softReset.answered .ok 0#32).takeResponse)
    (t := (s.softReset.answered .ok 0#32).resetByPin) rfl rfl rfl rfl nofun rfl rfl rfl

/-- Settles O9: what INIT and reset leave differs only in storage that is unobservable. -/
theorem initIndistinguishableFromReset : Obligations.InitIndistinguishableFromReset :=
  fun _ _ n h => unspecifiedStorageIsUnobservable _ _ n (sameVisible_init_reset h)

end Sys2Proof.Machine
end

section
/-!
PROOFS. The frame of a command (20_memory.md R71): no command writes what the sequencer keeps to itself, and only ASEED draws from
the entropy port (40_key_and_seed.md R133).
-/

namespace Sys2Proof.Machine

/-- What the state holds beside the registers commands work on: the build, the sequencer's temporaries with the latched word, and
the words the host will present (00_scope.md R8, 10_state.md R44, R47). -/
def State.surroundings (s : State) : State :=
  { State.resetOf s.build with
    OPC := s.OPC, C := s.C, JA := s.JA, TA := s.TA, TB := s.TB, OUT := s.OUT, WACC := s.WACC, WK := s.WK, SEEN := s.SEEN,
    ECNT := s.ECNT, cmdIn := s.cmdIn }

/-- What the entropy source will deliver (10_state.md R47). -/
def State.entropySource (s : State) : List Byte × Nat := (s.entIn, s.draws)

theorem State.surroundings_eq_iff (s t : State) :
    t.surroundings = s.surroundings ↔
      t.build = s.build ∧ t.OPC = s.OPC ∧ t.C = s.C ∧ t.JA = s.JA ∧ t.TA = s.TA ∧ t.TB = s.TB ∧ t.OUT = s.OUT ∧
      t.WACC = s.WACC ∧ t.WK = s.WK ∧ t.SEEN = s.SEEN ∧ t.ECNT = s.ECNT ∧ t.cmdIn = s.cmdIn := by
  simp [State.surroundings, State.resetOf]

theorem drawBytes_surroundings (n : Nat) (s : State) : (State.drawBytes n s).2.surroundings = s.surroundings := by
  rw [(drawBytes_spec n s).2.1]
  rfl

theorem exec_aseed_keeps_surroundings (s : State) : Keeps State.surroundings s (exec .aseed s) :=
  .next (drawBytes_surroundings s.build.entLen s.clearKey)

theorem exec_keeps_surroundings_and_source {i : Instr} (hi : i ≠ .aseed) (s : State) :
    Keeps (fun u => (u.surroundings, u.entropySource)) s (exec i s) := by
  cases i with
  | aseed => exact absurd rfl hi
  | nop => exact .next rfl
  | init => exact .next rfl
  | kclr => exact .next rfl
  | keyb b => exact .ite (.next rfl) (.next rfl)
  | seed => exact .ite (.next rfl) (.next rfl)
  | next => exact .ite (.next rfl) (.next rfl)
  | word => exact .ite (.next rfl) (.next rfl)
  | snap => exact .ite (.next rfl) (.next rfl)
  | shrd a => exact .ite (.next rfl) (.next rfl)
  | ldbeg => exact .next rfl
  | ldsym v => exact .ite (.next rfl) (.next rfl)
  | rstr =>
    cases h : s.restoreReason with
    | some r => rw [exec_rstr_invalid s r h]; exact .next rfl
    | none => rw [exec_rstr_valid s h]; exact .next rfl
  | rdcsr n => exact .ite (.next rfl) (.next rfl)
  | clre => exact .next rfl

theorem exec_keeps_surroundings (i : Instr) (s : State) : Keeps State.surroundings s (exec i s) := by
  by_cases hi : i = .aseed
  · subst hi
    exact exec_aseed_keeps_surroundings s
  · exact fun t h => congrArg Prod.fst (exec_keeps_surroundings_and_source hi s t h)

theorem exec_keeps_entropySource {i : Instr} (hi : i ≠ .aseed) (s : State) : Keeps State.entropySource s (exec i s) :=
  fun t h => congrArg Prod.snd (exec_keeps_surroundings_and_source hi s t h)

/-- Settles O30: every command keeps the surroundings, and every command but ASEED the entropy source. -/
theorem commandsKeepBuildAndTemporaries : Obligations.CommandsKeepBuildAndTemporaries := by
  intro i s t h
  obtain ⟨hbuild, hopc, hc, hja, hta, htb, hout, hwacc, hwk, hseen, hecnt, hcmd⟩ :=
    (s.surroundings_eq_iff t).mp (exec_keeps_surroundings i s t h)
  exact ⟨hbuild, hopc, hc, hja, hta, htb, hout, hwacc, hwk, hseen, hecnt, hcmd,
    fun hi => Prod.mk.inj (exec_keeps_entropySource hi s t h)⟩

end Sys2Proof.Machine
end

section
/-!
PROOFS. Loading an image and restoring it (20_memory.md R64, R75; 43_snapshot_restore.md R198, R200, R205): LDBEG and one LDSYM a
symbol leave exactly those symbols in the shadow bank, RSTR accepts a valid image, and the live state then has that image.
-/

namespace Sys2Proof.Machine

/-! ### The symbols of the shadow image -/

/-- The valid symbols of the shadow image, in image order (10_state.md R31, R32). -/
def State.loaded (s : State) : List Sym := (List.range s.CNT).map fun a => elem s.build .SH s.SH a

section
variable (s : State)

theorem State.length_loaded : s.loaded.length = s.CNT := by
  simp [State.loaded]

theorem State.loaded_appendSymbol (v : BitVec 12) : (s.appendSymbol v).loaded = s.loaded ++ [valueSym s.build v] := by
  have hold : ∀ a ∈ List.range s.CNT, elem s.build .SH (s.appendSymbol v).SH a = elem s.build .SH s.SH a := fun a ha =>
    elem_put_other (List.mem_range.mp ha).ne
  have hnew : elem s.build .SH (s.appendSymbol v).SH s.CNT = valueSym s.build v := by
    rw [State.appendSymbol_SH, elem_put_same]
    exact low_low s.build v.toNat
  simp only [State.loaded, State.appendSymbol_CNT, State.appendSymbol_build, List.range_succ, List.map_append,
    List.map_congr_left hold, List.map_cons, List.map_nil, hnew]

variable {s}

theorem State.shadowTable_eq_drop_loaded (hc : s.CNT = s.build.IMG_LEN) : s.shadowTable = s.loaded.drop 2 := by
  simp [State.shadowTable, State.loaded, hc, Build.IMG_LEN, List.range_succ_eq_map]

theorem State.imageAt_installImage {p : Nat} (hp : p < s.build.IMG_LEN) :
    s.installImage.imageAt p = elem s.build .SH s.SH p := by
  unfold State.imageAt
  split
  · next h0 => rw [h0]; rfl
  · split
    · next h1 => rw [h1]; rfl
    · next h0 h1 =>
      have hlt : p - 2 < s.build.N := by unfold Build.IMG_LEN at hp; omega
      rw [State.installImage_build, State.installImage_S, elem_fill, if_pos hlt, Nat.sub_add_cancel (by omega)]
      exact narrow_elem s.build .SH s.SH p

theorem State.image_installImage (hc : s.CNT = s.build.IMG_LEN) : s.installImage.image = s.loaded := by
  unfold State.image State.loaded
  rw [hc]
  exact List.map_congr_left fun p hp => State.imageAt_installImage (List.mem_range.mp hp)

end

/-! ### Loading -/

/-- A block of the build `b` into which exactly the symbols `syms`, all in range, have been loaded. -/
structure Loaded (b : Build) (syms : List (BitVec 12)) (s : State) : Prop where
  build : s.build = b
  symbols : s.loaded = syms.map (valueSym b)
  ldbad : s.LDBAD = false
  ldovf : s.LDOVF = false

namespace Loaded

variable {b : Build} {syms : List (BitVec 12)} {s : State}

theorem cnt (h : Loaded b syms s) : s.CNT = syms.length := by
  rw [← s.length_loaded, h.symbols, List.length_map]

/-- One LDSYM in range, while there is room. -/
theorem ldsym (h : Loaded b syms s) {v : BitVec 12} (hroom : syms.length < b.IMG_LEN) (hv : v.toNat < b.N) :
    ∃ t, exec (.ldsym v) s = .next t ∧ Loaded b (syms ++ [v]) t.takeResponse := by
  have hcnt : s.CNT < b.IMG_LEN := h.cnt ▸ hroom
  obtain ⟨rfl, hsyms, hbad, hovf⟩ := h
  refine ⟨_, exec_ldsym_room v s hcnt, rfl, ?_, ?_, hovf⟩
  · calc (s.appendSymbol v).loaded = s.loaded ++ [valueSym s.build v] := s.loaded_appendSymbol v
      _ = (syms ++ [v]).map (valueSym s.build) := by rw [hsyms, List.map_append, List.map_singleton]
  · calc (s.appendSymbol v).LDBAD = (s.LDBAD || valueOutOfRange s.build v) := rfl
      _ = false := by simp [hbad, valueOutOfRange, hv]

/-- The rest of an image, symbol by symbol. -/
theorem run_ldsym {rest : List (BitVec 12)} (h : Loaded b syms s) (hlen : (syms ++ rest).length ≤ b.IMG_LEN)
    (hlt : ∀ v ∈ rest, v.toNat < b.N) :
    ∃ t, runCommands (rest.map Instr.ldsym) s = .next t ∧ Loaded b (syms ++ rest) t := by
  induction rest generalizing syms s with
  | nil => exact ⟨s, rfl, by rwa [List.append_nil]⟩
  | cons v rest ih =>
    obtain ⟨hv, hrest⟩ := List.forall_mem_cons.mp hlt
    have hroom : syms.length < b.IMG_LEN := by
      rw [List.length_append, List.length_cons] at hlen
      omega
    obtain ⟨t, ht, hl⟩ := h.ldsym hroom hv
    obtain ⟨u, hu, hl'⟩ := ih hl (by rwa [List.append_cons] at hlen) hrest
    exact ⟨u, by simp only [List.map_cons, runCommands, ht, hu], by rwa [List.append_cons]⟩

end Loaded

theorem loaded_ldbeg (s : State) : Loaded s.build [] ((s.setCount 0).answered .ok 0#32).takeResponse :=
  ⟨rfl, rfl, rfl, rfl⟩

/-- LOADIMG of symbols in range, at most an image of them, into any block. -/
theorem run_loadCommands (s : State) {image : List (BitVec 12)} (hlen : image.length ≤ s.build.IMG_LEN)
    (hlt : ∀ v ∈ image, v.toNat < s.build.N) :
    ∃ t, runCommands (loadCommands image) s = .next t ∧ Loaded s.build image t := by
  obtain ⟨t, ht, hl⟩ := (loaded_ldbeg s).run_ldsym hlen hlt
  exact ⟨t, by simpa only [loadCommands, runCommands, exec_ldbeg] using ht, hl⟩

/-! ### Restoring -/

theorem valueSym_toNat (b : Build) (v : BitVec 12) (h : v.toNat < b.N) : (valueSym b v).toNat = v.toNat := by
  rw [valueSym, low_toNat, Nat.mod_eq_of_lt h]

/-- The checks of RSTR, converse to `State.restoreReason_eq_none`. -/
theorem State.restoreReason_of_valid {s : State} (hovf : s.LDOVF = false) (hc : s.CNT = s.build.IMG_LEN)
    (hbad : s.LDBAD = false) (hp : s.shadowIsPermutation = true) : s.restoreReason = none := by
  simp [State.restoreReason, hovf, hc, hbad, hp]

theorem Loaded.restoreReason {b : Build} {image : List (BitVec 12)} {s : State} (h : Loaded b image s)
    (hlen : image.length = b.IMG_LEN) (hlt : ∀ v ∈ image, v.toNat < b.N) (hnd : (image.drop 2).Nodup) :
    s.restoreReason = none := by
  have hc : s.CNT = s.build.IMG_LEN := by rw [h.cnt, hlen, h.build]
  have htable : s.shadowTable = (image.drop 2).map (valueSym b) := by
    rw [State.shadowTable_eq_drop_loaded hc, h.symbols, List.map_drop]
  have hinj : ∀ v ∈ image.drop 2, ∀ w ∈ image.drop 2, valueSym b v = valueSym b w → v = w := by
    intro v hv w hw heq
    apply BitVec.eq_of_toNat_eq
    rw [← valueSym_toNat b v (hlt v (List.mem_of_mem_drop hv)), heq, valueSym_toNat b w (hlt w (List.mem_of_mem_drop hw))]
  have hp : s.shadowIsPermutation = true := by
    rw [State.shadowIsPermutation, htable]
    exact decide_eq_true (hnd.map_on hinj)
  exact State.restoreReason_of_valid h.ldovf hc h.ldbad hp

/-- RESTOREIMG of a valid image into any block: RSTR answers OK, and the image of the live state is the one loaded. -/
theorem run_loadCommands_rstr (s : State) {image : List (BitVec 12)} (hlen : image.length = s.build.IMG_LEN)
    (hlt : ∀ v ∈ image, v.toNat < s.build.N) (hnd : (image.drop 2).Nodup) :
    ∃ t, runCommands (loadCommands image ++ [.rstr]) s = .next t ∧ rspCode t.RSP = 0#4 ∧ t.build = s.build ∧
      t.SEEDED = true ∧ t.image = image.map (valueSym s.build) := by
  obtain ⟨u, hu, hl⟩ := run_loadCommands s hlen.le hlt
  have hc : u.CNT = u.build.IMG_LEN := by rw [hl.cnt, hlen, hl.build]
  refine ⟨(u.installImage.answered .ok 0#32).takeResponse, ?_, rspCode_rspWord .ok 0#32, hl.build, rfl, ?_⟩
  · rw [runCommands_append hu]
    simp only [runCommands, exec_rstr_valid u (hl.restoreReason hlen hlt hnd)]
  · calc u.installImage.image = u.loaded := State.image_installImage hc
      _ = image.map (valueSym s.build) := hl.symbols

end Sys2Proof.Machine
end

section
/-!
PROOFS. The symbols a block returns depend on its width and its image alone (41_step.md R156, 20_memory.md R75): so a second block
that holds the image of a first one returns what the first one returns.
-/

namespace Sys2Proof.Machine

/-! ### The image of a live state -/

/-- The cursors, then the table (20_memory.md R64). -/
theorem State.image_eq (s : State) :
    s.image = s.I :: s.J :: (List.range s.build.N).map fun a => elem s.build .S s.S a := by
  simp [State.image, Build.IMG_LEN, List.range_succ_eq_map, State.imageAt]

theorem Build.N_of_width {b c : Build} (h : b.width = c.width) : b.N = c.N := by
  rw [Build.N, Build.N, h]

theorem Bijective.injOn {n : Nat} {f : Nat → Nat} (h : Bijective n f) (hlt : ∀ a, a < n → f a < n) {a c : Nat} (ha : a < n)
    (hc : c < n) (hac : f a = f c) : a = c := by
  obtain ⟨x, -, -, hu⟩ := h (f c) (hlt c hc)
  rw [hu a ha hac, hu c hc rfl]

section
variable {s : State}

theorem Inv.image_lt (h : Inv s) {v : Sym} (hv : v ∈ s.image) : v.toNat < s.build.N := by
  rw [State.image_eq, List.mem_cons, List.mem_cons, List.mem_map] at hv
  obtain rfl | rfl | ⟨a, -, rfl⟩ := hv
  · exact h.i_lt
  · exact h.j_lt
  · exact elem_S_lt _ _ _

theorem Inv.image_table_nodup (h : Inv s) (hs : s.SEEDED = true) : (s.image.drop 2).Nodup := by
  rw [State.image_eq]
  refine List.nodup_range.map_on fun a ha c hc hac => ?_
  exact (h.bijective hs).injOn (fun _ _ => elem_S_lt _ _ _) (List.mem_range.mp ha) (List.mem_range.mp hc)
    (congrArg BitVec.toNat hac)

end

/-- An image dumped by one block and sent to another of the same width, stored as it was. -/
theorem valueSym_setWidth {b : Build} {v : Sym} (h : v.toNat < b.N) : valueSym b (v.setWidth 12) = v := by
  rw [valueSym, BitVec.toNat_setWidth_of_le (by decide)]
  exact low_of_lt b v h

/-! ### The step depends on the width alone -/

theorem elem_of_width {b c : Build} (h : b.width = c.width) : elem b = elem c := by
  cases b; cases c; cases h; rfl

theorem stepLive_of_width {b c : Build} (h : b.width = c.width) : stepLive b = stepLive c := by
  cases b; cases c; cases h; rfl

theorem stepOut_of_width {b c : Build} (h : b.width = c.width) : stepOut b = stepOut c := by
  cases b; cases c; cases h; rfl

/-! ### Equal images, equal symbols -/

theorem liveSame_of_image {s t : State} (hw : t.build.width = s.build.width) (h : t.image = s.image) :
    LiveSame s.build t.live s.live := by
  rw [State.image_eq, State.image_eq, elem_of_width hw, Build.N_of_width hw, List.cons.injEq, List.cons.injEq] at h
  obtain ⟨hi, hj, htable⟩ := h
  exact ⟨hi, hj, fun a ha => List.map_inj_left.mp htable a (List.mem_range.mpr ha)⟩

theorem nextSymbols_seeded {s : State} (hs : s.SEEDED = true) (n : Nat) :
    nextSymbols (n + 1) s = zext32 (stepOut s.build s.live) :: nextSymbols n
      ((s.setLive (stepLive s.build s.live)).answered .ok (zext32 (stepOut s.build s.live))).takeResponse := by
  simp only [nextSymbols, exec_next_seeded s hs, State.answered_RSP, rspData_rspWord]

theorem nextSymbols_of_liveSame {s t : State} (n : Nat) (hs : s.SEEDED = true) (ht : t.SEEDED = true)
    (hw : t.build.width = s.build.width) (h : LiveSame s.build t.live s.live) : nextSymbols n t = nextSymbols n s := by
  induction n generalizing s t with
  | zero => rfl
  | succ n ih =>
    rw [nextSymbols_seeded hs, nextSymbols_seeded ht, stepOut_of_width hw, stepLive_of_width hw, h.stepOut]
    exact congrArg _ (ih hs ht hw h.stepLive)

/-- Settles O45: the invariant makes the image valid, so the restored block holds it, and blocks of one width with one image return
the same symbols. -/
theorem forkedGeneratorGivesSameStream : Obligations.ForkedGeneratorGivesSameStream := by
  intro s u n h hs hw
  have hN : u.build.N = s.build.N := Build.N_of_width hw
  have hlt : ∀ v ∈ s.image, v.toNat < u.build.N := fun v hv => hN ▸ h.image_lt hv
  have hwide (v : Sym) : (v.setWidth 12).toNat = v.toNat := BitVec.toNat_setWidth_of_le (by decide)
  have hinj : Function.Injective fun v : Sym => v.setWidth 12 := fun v w hvw =>
    BitVec.eq_of_toNat_eq (by rw [← hwide v, ← hwide w]; exact congrArg BitVec.toNat hvw)
  obtain ⟨t, ht, hok, hbuild, hseeded, himage⟩ :=
    run_loadCommands_rstr u (image := s.image.map fun v => v.setWidth 12)
      (by simp [State.image, Build.IMG_LEN, hN])
      (by simpa [List.forall_mem_map, hwide] using hlt)
      (by rw [← List.map_drop]; exact (h.image_table_nodup hs).map hinj)
  have himage' : t.image = s.image := by
    rw [himage, List.map_map]
    exact (List.map_congr_left fun v hv => valueSym_setWidth (hlt v hv)).trans (List.map_id _)
  have hwidth : t.build.width = s.build.width := by rw [hbuild, hw]
  exact ⟨t, ht, hok, nextSymbols_of_liveSame n hs hseeded hwidth (liveSame_of_image hwidth himage')⟩

end Sys2Proof.Machine
end

section
/-!
PROOFS. The decoder and the encoder are inverse (30_encoding.md R90, R91, R97 to R99). A word is its opcode before its operand; a
form-B operand is four zero bits before the key byte; and what a word decodes to is what the form of its opcode makes of the
operand, the one walk through the opcode map that both the round trip and the illegal words need.
-/

namespace Sys2Proof

/-! ### The fields of a word -/

@[simp] theorem opcodeOf_encodeWith (op : BitVec 4) (x : BitVec 12) : opcodeOf (encodeWith op x) = op :=
  BitVec.extractLsb'_append_eq_left

@[simp] theorem operandOf_encodeWith (op : BitVec 4) (x : BitVec 12) : operandOf (encodeWith op x) = x :=
  BitVec.extractLsb'_append_eq_right

theorem encodeWith_fields (w : CmdWord) : encodeWith (opcodeOf w) (operandOf w) = w :=
  BitVec.extractLsb'_append_extractLsb' (w := 4) (len := 12)

theorem toNat_opcodeOf (w : CmdWord) : (opcodeOf w).toNat = w.toNat / 4096 := by
  rw [opcodeOf, BitVec.extractLsb'_toNat, Nat.shiftRight_eq_div_pow]
  have := w.isLt
  omega

theorem toNat_operandOf (w : CmdWord) : (operandOf w).toNat = w.toNat % 4096 := by
  rw [operandOf, BitVec.extractLsb'_toNat, Nat.shiftRight_zero]

theorem operandOf_eq_zero_iff (w : CmdWord) : operandOf w = 0#12 ↔ w.toNat % 4096 = 0 := by
  rw [← toNat_operandOf, BitVec.toNat_eq, BitVec.toNat_zero]

theorem operandOf_high_eq_zero_iff (w : CmdWord) :
    (operandOf w).extractLsb' 8 4 = 0#4 ↔ w.toNat % 4096 / 256 = 0 := by
  rw [BitVec.toNat_eq, BitVec.extractLsb'_toNat, toNat_operandOf, Nat.shiftRight_eq_div_pow, BitVec.toNat_zero]
  omega

/-- The opcode as the decoder matches on it, a number, and as the encoder writes it, four bits. -/
theorem encodeWith_of_toNat_opcodeOf {w : CmdWord} {op : BitVec 4} (h : (opcodeOf w).toNat = op.toNat) (x : BitVec 12) :
    encodeWith op x = encodeWith (opcodeOf w) x := by
  rw [BitVec.eq_of_toNat_eq h]

/-! ### The operand forms -/

theorem setWidth_byte_eq_append (b : BitVec 8) : b.setWidth 12 = 0#4 ++ b := BitVec.setWidth_eq_append (by decide)

theorem operand_eq_setWidth_low_byte {x : BitVec 12} (h : x.extractLsb' 8 4 = 0#4) :
    (x.extractLsb' 0 8).setWidth 12 = x := by
  rw [setWidth_byte_eq_append, ← h]
  exact BitVec.extractLsb'_append_extractLsb' (w := 4) (len := 8)

theorem decodeZ_eq_ok_iff {w : CmdWord} {i j : Instr} : decodeZ w i = .ok j ↔ operandOf w = 0#12 ∧ i = j := by
  unfold decodeZ
  split <;> simp [*]

theorem decodeB_eq_ok {w : CmdWord} {f : BitVec 8 → Instr} {j : Instr} (h : decodeB w f = .ok j) :
    ∃ b, operandOf w = b.setWidth 12 ∧ f b = j := by
  unfold decodeB at h
  split at h
  · next hz => cases h; exact ⟨_, (operand_eq_setWidth_low_byte hz).symm, rfl⟩
  · cases h

theorem decodeZ_illegal_iff {w : CmdWord} {i : Instr} : (∃ e, decodeZ w i = .error e) ↔ operandOf w ≠ 0#12 := by
  unfold decodeZ
  split <;> simp [*]

theorem decodeB_illegal_iff {w : CmdWord} {f : BitVec 8 → Instr} :
    (∃ e, decodeB w f = .error e) ↔ (operandOf w).extractLsb' 8 4 ≠ 0#4 := by
  unfold decodeB
  split <;> simp [*]

/-! ### The opcode map -/

/-- `r` is what the operand form of the opcode of `w` makes of `w`; the commands it can be encode to that opcode. -/
inductive DecodesByForm (w : CmdWord) : Except Illegal Instr → Prop where
  | formZ (i : Instr) (hop : (opcodeOf w).toNat ∈ [0x0, 0x1, 0x2, 0x4, 0x5, 0x6, 0x7, 0x8, 0xA, 0xC, 0xE])
      (henc : encode i = encodeWith (opcodeOf w) 0#12) : DecodesByForm w (decodeZ w i)
  | formB (hop : (opcodeOf w).toNat = 0x3) (henc : ∀ b, encode (.keyb b) = encodeWith (opcodeOf w) (b.setWidth 12)) :
      DecodesByForm w (decodeB w .keyb)
  | wholeOperand (i : Instr) (hop : (opcodeOf w).toNat ∈ [0x9, 0xB, 0xD])
      (henc : encode i = encodeWith (opcodeOf w) (operandOf w)) : DecodesByForm w (.ok i)
  | reserved (hop : (opcodeOf w).toNat = 0xF) : DecodesByForm w (.error .reservedOpcode)

theorem decodesByForm (w : CmdWord) : DecodesByForm w (decode w) := by
  unfold decode
  split
  · next h => exact .formZ .nop (by simp [h]) (encodeWith_of_toNat_opcodeOf h _)
  · next h => exact .formZ .init (by simp [h]) (encodeWith_of_toNat_opcodeOf h _)
  · next h => exact .formZ .kclr (by simp [h]) (encodeWith_of_toNat_opcodeOf h _)
  · next h => exact .formB h (fun _ => encodeWith_of_toNat_opcodeOf h _)
  · next h => exact .formZ .seed (by simp [h]) (encodeWith_of_toNat_opcodeOf h _)
  · next h => exact .formZ .aseed (by simp [h]) (encodeWith_of_toNat_opcodeOf h _)
  · next h => exact .formZ .next (by simp [h]) (encodeWith_of_toNat_opcodeOf h _)
  · next h => exact .formZ .word (by simp [h]) (encodeWith_of_toNat_opcodeOf h _)
  · next h => exact .formZ .snap (by simp [h]) (encodeWith_of_toNat_opcodeOf h _)
  · next h => exact .wholeOperand (.shrd _) (by simp [h]) (encodeWith_of_toNat_opcodeOf h _)
  · next h => exact .formZ .ldbeg (by simp [h]) (encodeWith_of_toNat_opcodeOf h _)
  · next h => exact .wholeOperand (.ldsym _) (by simp [h]) (encodeWith_of_toNat_opcodeOf h _)
  · next h => exact .formZ .rstr (by simp [h]) (encodeWith_of_toNat_opcodeOf h _)
  · next h => exact .wholeOperand (.rdcsr _) (by simp [h]) (encodeWith_of_toNat_opcodeOf h _)
  · next h => exact .formZ .clre (by simp [h]) (encodeWith_of_toNat_opcodeOf h _)
  · next => exact .reserved (by have := (opcodeOf w).isLt; grind)

theorem DecodesByForm.encode_eq {w : CmdWord} {r : Except Illegal Instr} (h : DecodesByForm w r) {i : Instr}
    (hr : r = .ok i) : encode i = w := by
  cases h with
  | formZ j _ henc =>
    obtain ⟨hx, rfl⟩ := decodeZ_eq_ok_iff.mp hr
    rw [henc, ← hx, encodeWith_fields]
  | formB _ henc =>
    obtain ⟨b, hx, rfl⟩ := decodeB_eq_ok hr
    rw [henc, ← hx, encodeWith_fields]
  | wholeOperand j _ henc =>
    cases hr
    rw [henc, encodeWith_fields]
  | reserved _ => cases hr

theorem DecodesByForm.illegal_iff {w : CmdWord} {r : Except Illegal Instr} (h : DecodesByForm w r) :
    (∃ e, r = .error e) ↔
      (w.toNat / 4096 = 0xF ∨
        (w.toNat / 4096 ∈ [0x0, 0x1, 0x2, 0x4, 0x5, 0x6, 0x7, 0x8, 0xA, 0xC, 0xE] ∧ w.toNat % 4096 ≠ 0) ∨
        (w.toNat / 4096 = 0x3 ∧ w.toNat % 4096 / 256 ≠ 0)) := by
  simp only [← toNat_opcodeOf, ne_eq, ← operandOf_eq_zero_iff, ← operandOf_high_eq_zero_iff]
  cases h with
  | formZ i hop _ =>
    have hF : (opcodeOf w).toNat ≠ 0xF := fun h => absurd (h ▸ hop) (by decide)
    have h3 : (opcodeOf w).toNat ≠ 0x3 := fun h => absurd (h ▸ hop) (by decide)
    simp only [decodeZ_illegal_iff, hop, hF, h3, true_and, false_and, false_or, or_false]
  | formB hop _ => simp [decodeB_illegal_iff, hop]
  | wholeOperand i hop _ =>
    simp only [List.mem_cons, List.not_mem_nil, or_false] at hop
    obtain hop | hop | hop := hop <;> simp [hop]
  | reserved hop => simp [hop]

theorem decode_encode (i : Instr) : decode (encode i) = .ok i := by
  cases i with
  | keyb b =>
    have hhigh : (b.setWidth 12).extractLsb' 8 4 = 0#4 := by
      rw [setWidth_byte_eq_append]; exact BitVec.extractLsb'_append_eq_left
    have hlow : (b.setWidth 12).extractLsb' 0 8 = b := by
      rw [setWidth_byte_eq_append]; exact BitVec.extractLsb'_append_eq_right
    simp [encode, decode, decodeB, hhigh, hlow]
  | shrd x | ldsym x | rdcsr x => simp [encode, decode]
  | nop | init | kclr | seed | aseed | next | word | snap | ldbeg | rstr | clre => rfl

/-- Settles O2: a command's encoding decodes to it by its constructor, and a word that decodes to it is the opcode and the
operand of that encoding by the form of its opcode. -/
theorem decodeAgreesWithEncode : Obligations.DecodeAgreesWithEncode :=
  fun w i => ⟨(decodesByForm w).encode_eq, fun h => h ▸ decode_encode i⟩

/-- Settles O3, form by form. -/
theorem illegalWordsAreTheReservedOnes : Obligations.IllegalWordsAreTheReservedOnes :=
  fun w => (decodesByForm w).illegal_iff

/-- Settles O1: every word listed is the encoding of its command, and so decodes to it. -/
theorem workedEncodingsDecode : Obligations.WorkedEncodingsDecode :=
  ⟨rfl, decode_encode (.keyb 0x6C#8), rfl, decode_encode .seed, rfl, decode_encode .next, rfl, decode_encode (.shrd 257#12),
    rfl, decode_encode (.ldsym 255#12), rfl, decode_encode (.ldsym 256#12), rfl, rfl, decode_encode (.rdcsr 1#12), rfl, rfl,
    rfl⟩

end Sys2Proof
end

section
/-!
PROOFS. How a word is accepted: by a step, from the list of offered words (20_memory.md R71, 30_encoding.md R92, R98), and by a
clock edge, from the pins (45_sequencer_fsm.md R253).
-/

namespace Sys2Proof.Machine

variable {s : State}

/-! ### A step -/

theorem State.acceptWord_of_offered {w : CmdWord} {rest : List CmdWord} (hc : s.cmdIn = w :: rest) :
    s.acceptWord w = { s with OPC := w, cmdIn := rest } := by
  simp [State.acceptWord, hc]

theorem step_of_command {w : CmdWord} {rest : List CmdWord} {i : Instr} (hp : s.PH = .idle) (hr : s.RV = false)
    (hc : s.cmdIn = w :: rest) (hd : decode w = .ok i) : step s = exec i { s with OPC := w, cmdIn := rest } := by
  rw [step_of_word hp hr hc, runWord_of_decode hd, State.acceptWord_of_offered hc]

theorem State.withFetchWord_toNat (s : State) (w : CmdWord) : s.withFetchWord 16 w.toNat = s.presentWord w := by
  rw [State.withFetchWord, Nat.mod_eq_of_lt w.isLt, BitVec.ofNat_toNat, BitVec.setWidth_eq]

/-- Settles O4: a word placed by `withFetchWord` is one offered, and the encoding of a command decodes to it. -/
theorem stepRunsDecodedCommand : Obligations.StepRunsDecodedCommand :=
  ⟨fun _ _ _ _ => step_of_command, fun s i => by
    rw [State.withFetchWord_toNat, step_of_command rfl rfl rfl (decode_encode i)]
    rfl⟩

/-- Settles O5: the answer to an illegal word is one error entry, with code 5. -/
theorem stepAnswersIllegalWord : Obligations.StepAnswersIllegalWord := by
  intro s w rest e hp hr hc hd
  rw [step_of_word hp hr hc, runWord_of_illegal hd, State.acceptWord_of_offered hc]
  rfl

/-! ### A clock edge -/

variable {p : Pins}

theorem State.cmdReady_iff (s : State) (rst : Bool) :
    (s.outputs rst).cmdReady = true ↔ rst = false ∧ s.PH = .idle ∧ s.RV = false := by
  simp [State.outputs, and_assoc]

theorem clockEdge_of_rst (h : p.rst = true) : clockEdge p s = .next s.resetByPin := by
  simp [clockEdge, h]

theorem clockEdge_in_flight (h : p.rst = false) (hp : s.PH ≠ .idle) :
    clockEdge p s = microStep p.entropy (s.responseEdge p) := by
  simp [clockEdge, h, hp]

theorem clockEdge_of_waiting (h : p.rst = false) (hp : s.PH = .idle) (hr : s.RV = true) :
    clockEdge p s = .next (s.responseEdge p) := by
  simp [clockEdge, h, hp, hr]

theorem clockEdge_of_ready (h : (s.outputs p.rst).cmdReady = true) :
    clockEdge p s = if p.cmdValid then startWord p.cmd s else .next s := by
  obtain ⟨hrst, hp, hr⟩ := (s.cmdReady_iff p.rst).mp h
  simp [clockEdge, hrst, hp, hr]

/-- While `cmd_ready = 0` an edge is the reset, a micro-step or the response port's, and none of them reads the command pins. -/
theorem clockEdge_congr_of_not_ready (h : (s.outputs p.rst).cmdReady = false) (valid : Bool) (w : CmdWord) :
    clockEdge { p with cmdValid := valid, cmd := w } s = clockEdge p s := by
  by_cases hrst : p.rst = true
  · exact Eq.trans (clockEdge_of_rst hrst) (clockEdge_of_rst hrst).symm
  have hrst : p.rst = false := by simpa using hrst
  by_cases hp : s.PH = .idle
  · have hr : s.RV = true := by simpa [State.outputs, hrst, hp] using h
    exact Eq.trans (clockEdge_of_waiting hrst hp hr) (clockEdge_of_waiting hrst hp hr).symm
  · exact Eq.trans (clockEdge_in_flight hrst hp) (clockEdge_in_flight hrst hp).symm

/-- Settles O50, by the two values of `cmd_ready`. -/
theorem wordNotAcceptedWhileBusy : Obligations.WordNotAcceptedWhileBusy :=
  ⟨State.cmdReady_iff, fun _ _ valid w h => clockEdge_congr_of_not_ready h valid w,
    fun _ _ h hv => (clockEdge_of_ready h).trans (if_pos hv),
    fun _ _ h hv => (clockEdge_of_ready h).trans (if_neg (by simp [hv]))⟩

end Sys2Proof.Machine
end

section
/-!
PROOFS. Keys and seeding (40_key_and_seed.md). The model's key schedule over memories is the loop of R127 over plain numbers; the
loop reads a key only at the counters it passes, so the first `N-1` bytes decide the table (R130). Then the four commands that
write the key buffer or seed from it, the wait of ASEED for entropy (R134), and what the host makes of a seed argument (R141 to
R143).
-/

namespace Sys2Proof.Machine

/-! ### The key schedule -/

/-- Settles O36: the identity table is a bijection and every exchange of two entries keeps one, whatever the key. -/
theorem keyScheduleIsPermutation : Obligations.KeyScheduleIsPermutation :=
  fun b key _ => tableBijective_ksa b key

theorem mixAcc_toNat (b : Build) (T : Memory) (i : Nat) (j : Sym) (k : Byte) :
    (mixAcc b T i j k).toNat = (j.toNat + (elem b .S T i).toNat + k.toNat) % b.N := low_toNat b _

theorem mixAcc_lt (b : Build) (T : Memory) (i : Nat) (j : Sym) (k : Byte) : (mixAcc b T i j k).toNat < b.N := low_lt b _

/-- The mixing loop over a memory is the loop of R127 over the numbers of its entries `0 .. N-1`. -/
theorem elem_mix_eq_specMix {b : Build} {key : List Byte} (n : Nat) :
    ∀ {i : Nat} {j : Sym} {T : Memory} {F : Nat → Nat}, i + n ≤ b.N → (∀ c, c < b.N → (elem b .S T c).toNat = F c) →
      ∀ a, a < b.N → (elem b .S (mix b key n i j T) a).toNat = specMix b.N key n i j.toNat F a := by
  induction n with
  | zero => exact fun _ hT a ha => hT a ha
  | succ n ih =>
    intro i j T F hi hT a ha
    have hacc : (mixAcc b T i j (keyAt key i)).toNat = (j.toNat + F i + (keyAt key i).toNat) % b.N := by
      rw [mixAcc_toNat, hT i (by omega)]
    have hlt := hacc ▸ mixAcc_lt b T i j (keyAt key i)
    rw [mix, specMix, ih (by omega) (fun c hc => ?_) a ha, hacc]
    · rfl
    · rw [hacc, elem_swap, apply_ite BitVec.toNat, apply_ite BitVec.toNat, hT _ hlt, hT i (by omega), hT c hc]
      rfl

theorem elem_ksa_eq_specKsa (b : Build) (key : List Byte) {a : Nat} (ha : a < b.N) :
    (elem b .S (ksa b key) a).toNat = specKsa b.N key a :=
  elem_mix_eq_specMix (b.N - 1) (by omega) (elem_identityTable b) a ha

/-- The mixing loop reads a key only at the counters it passes, and there only the byte's residue mod `N`. -/
theorem mix_congr_key {b : Build} {k1 k2 : List Byte} (n : Nat) :
    ∀ {i : Nat} (j : Sym) (T : Memory),
      (∀ c, i ≤ c → c < i + n → (keyAt k1 c).toNat % b.N = (keyAt k2 c).toNat % b.N) →
      mix b k1 n i j T = mix b k2 n i j T := by
  induction n with
  | zero => exact fun _ _ _ => rfl
  | succ n ih =>
    intro i j T h
    have hacc : mixAcc b T i j (keyAt k1 i) = mixAcc b T i j (keyAt k2 i) := BitVec.eq_of_toNat_eq <| by
      rw [mixAcc_toNat, mixAcc_toNat, Nat.add_mod, h i (le_refl i) (by omega), ← Nat.add_mod]
    rw [mix, mix, hacc]
    exact ih _ _ fun c hc hc' => h c (by omega) (by omega)

/-- Below its length a key is read without wrapping around. -/
theorem keyAt_eq_getD {key : List Byte} {i : Nat} (h : i < key.length) : keyAt key i = key.getD i 0#8 := by
  rw [keyAt, Nat.mod_eq_of_lt h]

theorem ksa_congr_take {b : Build} {k1 k2 : List Byte} (h1 : b.N - 1 ≤ k1.length) (h2 : b.N - 1 ≤ k2.length)
    (h : k1.take (b.N - 1) = k2.take (b.N - 1)) : ksa b k1 = ksa b k2 := by
  refine mix_congr_key _ _ _ fun c _ hlast => ?_
  have hc : c < b.N - 1 := by omega
  have hget : k1[c]? = k2[c]? := by rw [← List.getElem?_take_of_lt hc, h, List.getElem?_take_of_lt hc]
  rw [keyAt_eq_getD (hc.trans_le h1), keyAt_eq_getD (hc.trans_le h2), List.getD_eq_getElem?_getD, hget,
    ← List.getD_eq_getElem?_getD]

/-- Settles O38: the loop's `N-1` iterations read the first `N-1` bytes, and `KMAX` bytes are more than those. -/
theorem longKeysAgree : Obligations.LongKeysAgree := by
  refine ⟨fun _ _ _ => ksa_congr_take, fun b key hlen => ?_⟩
  have hmax : b.N - 1 ≤ b.KMAX := Nat.sub_le _ _
  refine ksa_congr_take ?_ (hmax.trans hlen.le) ?_
  · rwa [List.length_take, min_eq_left hlen.le]
  · rw [List.take_take, min_eq_left hmax]

/-! ### The commands -/

/-- Settles O10: KCLR clears the two registers of the key buffer and answers, on every state. -/
theorem kclrClearsKeyBuffer : Obligations.KclrClearsKeyBuffer := ⟨rfl, exec_kclr⟩

theorem encode_keyb (b : BitVec 8) : encode (.keyb b) = 0x3000#16 ||| b.setWidth 16 := by
  rw [encode, encodeWith, BitVec.append_def, BitVec.setWidth'_eq, BitVec.setWidth_setWidth (by decide)]
  rfl

theorem State.keyByteAt_appendKey (s : State) (v : Byte) (a : Nat) :
    (s.appendKey v).keyByteAt a = if a = s.KLEN then v else s.keyByteAt a := elem_put s.build .K s.K s.KLEN a v

/-- Settles O11, by whether the buffer has room. -/
theorem keybAppendsOrDrops : Obligations.KeybAppendsOrDrops := by
  refine ⟨encode_keyb, fun b s hroom => ?_, exec_keyb_full⟩
  refine ⟨_, exec_keyb_room b s hroom, rfl, ?_, fun a ha => ?_⟩
  · exact (s.keyByteAt_appendKey b s.KLEN).trans (if_pos rfl)
  · exact (s.keyByteAt_appendKey b a).trans (if_neg ha)

theorem State.tableAt_seedWith {s : State} {b : Build} (hb : s.build = b) (key : List Byte) {a : Nat} (ha : a < b.N) :
    (s.seedWith key).tableAt a = specKsa b.N key a := by
  subst hb
  exact elem_ksa_eq_specKsa s.build key ha

/-- Settles O12, by whether the key buffer is empty; the answer leaves the table the seeding made. -/
theorem seedRunsKeySchedule : Obligations.SeedRunsKeySchedule :=
  ⟨rfl, exec_seed_empty, fun s hkey => ⟨_, exec_seed_key s hkey, rfl, fun _ => State.tableAt_seedWith rfl s.key⟩⟩

/-- Settles O13: the draws touch nothing but the entropy port, and the seeding is SEED's over the bytes drawn. -/
theorem aseedSeedsFromDrawnBytes : Obligations.AseedSeedsFromDrawnBytes := by
  refine ⟨rfl, fun s => ?_⟩
  obtain ⟨hlen, hport, hnamed⟩ := drawBytes_spec s.build.entLen s.clearKey
  refine ⟨_, _, exec_aseed s, hlen, hnamed, ?_, fun _ => State.tableAt_seedWith (drawBytes_build _ s.clearKey) _⟩
  rw [hport]
  rfl

/-! ### Waiting for entropy -/

theorem State.entReady_iff (s : State) : (s.outputs false).entReady = true ↔ s.PH = .ent := by
  simp [State.outputs]

theorem State.responseEdge_of_not_waiting {s : State} (h : s.RV = false) (p : Pins) : s.responseEdge p = s := by
  simp [State.responseEdge, h]

theorem State.phaseServed_of_inFlight {s : State} {i : Instr} (h : s.inFlight = some i) : s.phaseServed = s.PH.serves i := by
  simp [State.phaseServed, h]

/-- A micro-step in `ENT` without a transfer on the entropy port. -/
theorem microStep_ent_none {s : State} (hp : s.PH = .ent) (hf : s.inFlight = some .aseed) : microStep none s = .next s := by
  have hserved : s.phaseServed = true := by rw [State.phaseServed_of_inFlight hf, hp]; rfl
  have hwait : s.microNext none = s := by simp [State.microNext, hp, State.microEnt]
  simp [microStep, hp, hserved, hwait]

/-- Settles O52: the edge is a micro-step without a transfer. -/
theorem starvedAseedWaits : Obligations.StarvedAseedWaits := by
  refine ⟨fun p s hrst hnone hp hf hrv => ⟨?_, ?_, s.entReady_iff.mpr hp⟩, State.entReady_iff⟩
  · have hbyte : p.entropy = none := by simp [Pins.entropy, hnone]
    rw [clockEdge_in_flight hrst (by simp [hp]), State.responseEdge_of_not_waiting hrv, hbyte, microStep_ent_none hp hf]
  · simp [State.outputs, hp]

/-! ### Seed arguments -/

/-- What a seed that normalises to a key sends (R104, R143). -/
theorem constructCommands_of_key {a : SeedArg} {key : List Byte} (h : normaliseSeed a = .ok (some key)) :
    constructCommands a = .ok (.kclr :: key.map Instr.keyb ++ [.seed]) := by
  rw [constructCommands, h]
  rfl

theorem normaliseSeed_text {units : List CodeUnit} (h : units ≠ []) :
    normaliseSeed (.text units) = .ok (some (textKey units)) := by
  cases units with
  | nil => exact absurd rfl h
  | cons c cs => rfl

theorem textKey_toNat (units : List CodeUnit) : (textKey units).map BitVec.toNat = units.map fun c => c.toNat % 256 := by
  simp [textKey]

/-- A sequence with an element that is no integer has no integers to take residues of. -/
theorem mapM_toInt?_eq_none {xs : List HostNum} (h : ∃ x ∈ xs, x.toInt? = none) : xs.mapM HostNum.toInt? = none := by
  induction xs with
  | nil => simp at h
  | cons y ys ih =>
    cases hy : y.toInt? with
    | none => simp [hy]
    | some n => simp [hy, ih (by simpa [hy] using h)]

theorem mapM_toInt?_map_int (ns : List Int) : (ns.map HostNum.int).mapM HostNum.toInt? = some ns := by
  induction ns with
  | nil => rfl
  | cons n ns ih => simp [HostNum.toInt?, ih]

theorem constructCommands_sequence_invalid {xs : List HostNum} (h : ∃ x ∈ xs, x.toInt? = none) :
    constructCommands (.sequence xs) = .error .invalidSeed := by
  have hseed : normaliseSeed (.sequence xs) = .error .invalidSeed := by
    cases xs with
    | nil => rfl
    | cons y ys => rw [normaliseSeed, mapM_toInt?_eq_none h]
  rw [constructCommands, hseed]

theorem normaliseSeed_ints {ns : List Int} (h : ns ≠ []) :
    normaliseSeed (.sequence (ns.map HostNum.int)) = .ok (some (ns.map intKeyByte)) := by
  cases ns with
  | nil => exact absurd rfl h
  | cons n ns =>
    have hints := mapM_toInt?_map_int (n :: ns)
    rw [List.map_cons] at hints ⊢
    rw [normaliseSeed, hints]

theorem intKeyByte_toNat (n : Int) : ((intKeyByte n).toNat : Int) = n % 256 := by
  rw [intKeyByte, BitVec.toNat_ofNat]
  omega

/-! ### Characters -/

theorem char_toNat_lt (c : Char) : c.toNat < 0x110000 := by
  obtain hlow | ⟨_, hhigh⟩ := c.valid
  · exact lt_trans hlow (by decide)
  · exact hhigh

theorem charCodes_bmp {c : Char} (h : c.toNat < 0x10000) : (charCodes c).map BitVec.toNat = [c.toNat] := by
  rw [charCodes, if_pos h, List.map_singleton, BitVec.toNat_ofNat, Nat.mod_eq_of_lt h]

/-- The surrogate pair of a character outside the Basic Multilingual Plane: the two halves of the ten bits each of its offset. -/
theorem charCodes_supplementary {c : Char} (h : 0x10000 ≤ c.toNat) :
    (charCodes c).map BitVec.toNat =
      [0xD800 + (c.toNat - 0x10000) / 0x400, 0xDC00 + (c.toNat - 0x10000) % 0x400] := by
  have hmax := char_toNat_lt c
  rw [charCodes, if_neg (by omega), List.map_cons, List.map_singleton, BitVec.toNat_ofNat, BitVec.toNat_ofNat,
    Nat.mod_eq_of_lt (by omega), Nat.mod_eq_of_lt (by omega)]

theorem charCodes_surrogates (c : Char) (h : 0x10000 ≤ c.toNat) :
    ∃ hi lo, (charCodes c).map BitVec.toNat = [hi, lo] ∧ 0xD800 ≤ hi ∧ hi < 0xDC00 ∧ 0xDC00 ≤ lo ∧ lo < 0xE000 ∧
      c.toNat = 0x10000 + (hi - 0xD800) * 0x400 + (lo - 0xDC00) := by
  have hmax := char_toNat_lt c
  exact ⟨_, _, charCodes_supplementary h, by omega, by omega, by omega, by omega, by omega⟩

/-- Settles O56: a text or integer seed that is not empty normalises to the key of its residues, and an element that is no
integer leaves none. -/
theorem seedArgumentChecks : Obligations.SeedArgumentChecks := by
  refine ⟨rfl, rfl, rfl, rfl, fun _ => constructCommands_sequence_invalid, fun units h => ?_,
    fun cs => List.flatMap_def, fun _ => charCodes_bmp, charCodes_surrogates, fun ns h => ?_⟩
  · exact ⟨textKey units, textKey_toNat units, constructCommands_of_key (normaliseSeed_text h)⟩
  · exact ⟨ns.map intKeyByte, by simp [intKeyByte_toNat], constructCommands_of_key (normaliseSeed_ints h)⟩

end Sys2Proof.Machine
end

section
/-!
PROOFS. The step (41_step.md). What the table reads after a step: the entries at the new cursors have changed places and no
other has moved, so the output is a read of the table before (R152), a bijection stays one (R153), and the step can be undone
(R157). NEXT is one such step, answered (R150, R151).
-/

namespace Sys2Proof.Machine

/-! ### The table after a step -/

section
variable (b : Build) (l : Live)

theorem elem_nextS_nextI : elem b .S (nextS b l) (nextI b l).toNat = elem b .S l.S (nextJ b l).toNat := by
  rw [elem_nextS, if_pos rfl]

/-- Equal cursors included: the exchange then leaves the entry as it was. -/
theorem elem_nextS_nextJ : elem b .S (nextS b l) (nextJ b l).toNat = elem b .S l.S (nextI b l).toNat := by
  rw [elem_nextS]
  split
  next hcursors => rw [hcursors]
  next => exact if_pos rfl

theorem elem_nextS_other {a : Nat} (hI : a ≠ (nextI b l).toNat) (hJ : a ≠ (nextJ b l).toNat) :
    elem b .S (nextS b l) a = elem b .S l.S a := by
  rw [elem_nextS, if_neg hI, if_neg hJ]

/-- An exchange of an entry with itself. -/
theorem elem_nextS_of_equal_cursors (h : (nextI b l).toNat = (nextJ b l).toNat) (a : Nat) :
    elem b .S (nextS b l) a = elem b .S l.S a := by
  by_cases ha : a = (nextI b l).toNat
  · rw [ha, elem_nextS_nextI, h]
  · exact elem_nextS_other b l ha (h ▸ ha)

/-- The output with its index as a number; all three reads are of the table after the exchange. -/
theorem stepOut_eq_elem_nextS :
    stepOut b l = elem b .S (nextS b l)
      (((elem b .S (nextS b l) (nextI b l).toNat).toNat + (elem b .S (nextS b l) (nextJ b l).toNat).toNat) % b.N) := by
  rw [stepOut, low_toNat]

/-- The index of the output is the sum of the two exchanged entries, read before the exchange as well as after it. -/
theorem stepOut_index_before :
    stepOut b l = elem b .S (nextS b l)
      (((elem b .S l.S (nextI b l).toNat).toNat + (elem b .S l.S (nextJ b l).toNat).toNat) % b.N) := by
  rw [stepOut_eq_elem_nextS, elem_nextS_nextI, elem_nextS_nextJ, Nat.add_comm]

end

/-- Settles O37: a step's table is the exchange of two entries of the table before. -/
theorem stepKeepsBijection : Obligations.StepKeepsBijection :=
  ⟨fun b l h => h.swap (nextI_lt b l) (nextJ_lt b l), fun b l _ => elem_nextS_other b l⟩

/-- Settles O40: the named reads are the entries at the new cursors before the step. -/
theorem stepOutputForms : Obligations.StepOutputForms := by
  intro b l i j t a c hi ha hj hc ht
  rw [← nextI_toNat] at hi
  subst hi ha
  rw [← nextJ_toNat] at hj
  subst hj hc ht
  refine ⟨elem_nextS_nextI b l, elem_nextS_nextJ b l, ?_, fun hij => ⟨congrArg _ hij, ?_, ?_⟩⟩
  · rw [stepOut_index_before, elem_nextS]
  · rw [← hij, two_mul]
  · exact elem_nextS_of_equal_cursors b l hij

/-! ### The step undone -/

/-- Subtracting mod `n` what was added mod `n`. -/
theorem add_mod_add_sub_mod {n x y : Nat} (hx : x < n) (hy : y ≤ n) : ((x + y) % n + n - y) % n = x := by
  have hsum : x + y + (n - y) = x + n := by omega
  rw [Nat.add_sub_assoc hy, Nat.mod_add_mod, hsum, Nat.add_mod_right, Nat.mod_eq_of_lt hx]

/-- Settles O41: what was added to `J` is now the entry at the new `J`, and an exchange is its own inverse. -/
theorem stepIsInvertible : Obligations.StepIsInvertible := by
  rintro b l _ hI hJ rfl
  refine ⟨?_, ?_, (elem_nextS_nextJ b l).symm, (elem_nextS_nextI b l).symm,
    fun _ haI haJ => (elem_nextS_other b l haI haJ).symm⟩
  · rw [stepLive, nextI_toNat]
    exact (add_mod_add_sub_mod hI (Build.N_pos b)).symm
  · rw [stepLive, elem_nextS_nextJ, nextJ_toNat]
    exact (add_mod_add_sub_mod hJ (elem_S_lt b _ _).le).symm

/-! ### NEXT -/

theorem zext32_toNat (v : Sym) : (zext32 v).toNat = v.toNat := BitVec.toNat_setWidth_of_le (by decide)

/-- Settles O14, by whether there is a live state; the answer leaves the table and the cursors the step made. -/
theorem nextAdvancesOneStep : Obligations.NextAdvancesOneStep := by
  refine ⟨rfl, exec_next_unseeded, fun s i j hs hi hj => ?_⟩
  have hI : i = (nextI s.build s.live).toNat := hi.trans (nextI_toNat s.build s.live).symm
  subst hI
  have hJ : j = (nextJ s.build s.live).toNat := hj.trans (nextJ_toNat s.build s.live).symm
  subst hJ
  refine ⟨_, exec_next_seeded s hs, rfl, rfl, rfl, congrArg BitVec.toNat (elem_nextS_nextI s.build s.live),
    congrArg BitVec.toNat (elem_nextS_nextJ s.build s.live),
    fun a haI haJ => congrArg BitVec.toNat (elem_nextS_other s.build s.live haI haJ), rspCode_rspWord _ _, ?_⟩
  have hdata : (rspData (rspWord .ok (zext32 (stepOut s.build s.live)))).toNat = (stepOut s.build s.live).toNat := by
    rw [rspData_rspWord, zext32_toNat]
  exact hdata.trans (congrArg BitVec.toNat (stepOut_eq_elem_nextS s.build s.live))

end Sys2Proof.Machine
end

section
/-!
PROOFS. WORD (42_derived_outputs.md R170 to R172): a run of NEXTs leaves the live state of as many steps, and the word composes the
symbols they return, the first most significant, because `WORD_STEPS` symbols fill 32 bits and no product is cut.
-/

namespace Sys2Proof.Machine

/-! ### Runs of NEXTs -/

/-- A seeded block after one NEXT, its response taken. -/
def State.afterNext (s : State) : State :=
  ((s.setLive (stepLive s.build s.live)).answered .ok (zext32 (stepOut s.build s.live))).takeResponse

theorem stepOut_lt (b : Build) (l : Live) : (stepOut b l).toNat < b.N := elem_S_lt b _ _

section
variable {s : State} (hs : s.SEEDED = true)
include hs

theorem runCommands_next_seeded (is : List Instr) : runCommands (.next :: is) s = runCommands is s.afterNext := by
  simp only [runCommands, exec_next_seeded s hs, State.afterNext]

/-- `n` NEXTs leave the live state of `n` steps, whatever word `e` the steps started from. -/
theorem runCommands_replicate_next (n : Nat) (e : Data) :
    ∃ u, runCommands (List.replicate n .next) s = .next u ∧ u.live = (stepMany s.build n s.live e).1 := by
  induction n generalizing s e with
  | zero => exact ⟨s, rfl, rfl⟩
  | succ n ih =>
    rw [List.replicate_succ, runCommands_next_seeded hs]
    exact ih (s := s.afterNext) hs _

theorem length_nextSymbols (n : Nat) : (nextSymbols n s).length = n := by
  induction n generalizing s with
  | zero => rfl
  | succ n ih =>
    rw [nextSymbols_seeded hs, List.length_cons]
    exact congrArg (· + 1) (ih (s := s.afterNext) hs)

theorem nextSymbols_lt (n : Nat) {d : Data} (hd : d ∈ nextSymbols n s) : d.toNat < s.build.N := by
  induction n generalizing s with
  | zero => cases hd
  | succ n ih =>
    rw [nextSymbols_seeded hs] at hd
    obtain rfl | hd := List.mem_cons.mp hd
    · rw [zext32_toNat]
      exact stepOut_lt s.build s.live
    · exact ih (s := s.afterNext) hs hd

end

/-! ### Composing a word -/

/-- If 32 bits hold every value of `e` followed by a symbol and a digit below `m`, then no bit of `e * N + out` is cut, and 32 bits
hold every value of it followed by a digit below `m`. -/
theorem accumulate_of_room {b : Build} {e : Data} {out : Sym} {m : Nat} (hm : 0 < m) (hout : out.toNat < b.N)
    (hroom : (e.toNat + 1) * (b.N * m) ≤ 2 ^ 32) :
    (accumulate b e out).toNat = e.toNat * b.N + out.toNat ∧ ((accumulate b e out).toNat + 1) * m ≤ 2 ^ 32 := by
  have hnext : e.toNat * b.N + out.toNat + 1 ≤ (e.toNat + 1) * b.N := by
    rw [Nat.add_mul]
    omega
  have hleft : (e.toNat * b.N + out.toNat + 1) * m ≤ 2 ^ 32 :=
    calc (e.toNat * b.N + out.toNat + 1) * m ≤ (e.toNat + 1) * b.N * m := Nat.mul_le_mul_right m hnext
      _ = (e.toNat + 1) * (b.N * m) := Nat.mul_assoc _ _ _
      _ ≤ 2 ^ 32 := hroom
  have hlt : e.toNat * b.N + out.toNat < 2 ^ 32 := (Nat.le_mul_of_pos_right _ hm).trans hleft
  have hacc : (accumulate b e out).toNat = e.toNat * b.N + out.toNat := by
    rw [accumulate, BitVec.toNat_ofNat, Nat.mod_eq_of_lt hlt]
  exact ⟨hacc, hacc ▸ hleft⟩

/-- If 32 bits hold every value of `e` followed by `n` symbols, the word of `n` steps is the composition of the symbols of `n` NEXTs. -/
theorem stepMany_word_eq_foldl {s : State} (hs : s.SEEDED = true) (n : Nat) {e : Data}
    (hroom : (e.toNat + 1) * s.build.N ^ n ≤ 2 ^ 32) :
    (stepMany s.build n s.live e).2.toNat =
      (nextSymbols n s).foldl (fun e d => e * s.build.N + d.toNat) e.toNat := by
  induction n generalizing s e with
  | zero => rfl
  | succ n ih =>
    rw [Nat.pow_succ'] at hroom
    obtain ⟨hacc, hleft⟩ := accumulate_of_room (Nat.pow_pos (Build.N_pos s.build)) (stepOut_lt s.build s.live) hroom
    rw [nextSymbols_seeded hs, List.foldl_cons, zext32_toNat, ← hacc]
    exact ih (s := s.afterNext) hs hleft

theorem Build.N_pow_WORD_STEPS (b : Build) : b.N ^ b.WORD_STEPS = 2 ^ 32 := by
  unfold Build.N Build.WORD_STEPS Build.W
  cases b.width <;> rfl

/-- Settles O15: `WORD_STEPS` symbols fill the 32 bits of the word exactly. -/
theorem wordIsConsecutiveNexts : Obligations.WordIsConsecutiveNexts := by
  refine ⟨rfl, exec_word_unseeded, fun s hs => ?_⟩
  obtain ⟨u, hu, hlive⟩ := runCommands_replicate_next hs s.build.WORD_STEPS 0#32
  have hroom : ((0#32).toNat + 1) * s.build.N ^ s.build.WORD_STEPS ≤ 2 ^ 32 := by
    rw [Build.N_pow_WORD_STEPS]
    decide
  refine ⟨_, u, exec_word_seeded s hs, hu, ?_, rspCode_rspWord _ _, length_nextSymbols hs _, ?_⟩
  · rw [← hlive]
    rfl
  · rw [State.answered_RSP, rspData_rspWord]
    exact stepMany_word_eq_foldl hs _ hroom

/-- Settles O16: the four symbols of O15's composition, each below `N = 256`. -/
theorem wordOfFourBytes : Obligations.WordOfFourBytes := by
  intro s hw hs
  have hN : s.build.N = 256 := by rw [Build.N, hw]
  have hsteps : s.build.WORD_STEPS = 4 := by simp [Build.WORD_STEPS, Build.W, hw]
  obtain ⟨t, -, ht, -, -, -, hlen, hdata⟩ := wordIsConsecutiveNexts.2.2 s hs
  rw [hsteps] at hlen hdata
  obtain ⟨a, b, c, d, habcd⟩ := List.length_eq_four.mp hlen
  have hlt : ∀ v ∈ [a, b, c, d], v.toNat < 256 := fun v hv => hN ▸ nextSymbols_lt hs 4 (habcd ▸ hv)
  rw [habcd, hN] at hdata
  refine ⟨a, b, c, d, t, habcd, ht, hlt a (by simp), hlt b (by simp), hlt c (by simp), hlt d (by simp), ?_⟩
  simpa using hdata

end Sys2Proof.Machine
end

section
/-!
PROOFS. The float and the bounded integer the host makes of one WORD (42_derived_outputs.md R176 to R180). A bounded-integer call
is settled by its arguments before any command, and otherwise by the response of exactly one WORD.
-/

namespace Sys2Proof.Machine

/-! ### The values -/

/-- Settles O55: a word is below `2^32`. -/
theorem floatIsInUnitInterval : Obligations.FloatIsInUnitInterval := by
  intro e
  have hlt : (e.toNat : ℚ) < 2 ^ 32 := by exact_mod_cast e.isLt
  refine ⟨div_mul_cancel₀ _ (by norm_num), div_nonneg (Nat.cast_nonneg _) (by norm_num), ?_⟩
  exact (div_lt_one (by norm_num)).mpr hlt

/-- A word scaled to a positive span lies in `0 .. span - 1`. -/
theorem scaled_word_mem (e : Data) {span : Int} (h : 0 < span) :
    0 ≤ (e.toNat : Int) * span / 2 ^ 32 ∧ (e.toNat : Int) * span / 2 ^ 32 < span := by
  have hlt : (e.toNat : Int) < 2 ^ 32 := by exact_mod_cast e.isLt
  refine ⟨Int.ediv_nonneg (mul_nonneg (Int.natCast_nonneg _) h.le) (by decide), ?_⟩
  apply Int.ediv_lt_of_lt_mul (by decide)
  rw [mul_comm span]
  exact mul_lt_mul_of_pos_right hlt h

/-- Settles O54: the scaled word is an offset below the span; a span of 1 leaves offset 0. -/
theorem boundedIntegerInRange : Obligations.BoundedIntegerInRange := by
  intro e lo hi hle
  obtain ⟨hnonneg, hlt⟩ := scaled_word_mem e (by omega : 0 < hi - lo + 1)
  unfold integerOf
  refine ⟨by omega, by omega, fun heq => by omega⟩

/-! ### The call -/

theorem integerRange_invalidArgument {args : List HostNum} (hone : ∀ hi, args ≠ [.int hi])
    (htwo : ∀ lo hi, args ≠ [.int lo, .int hi]) : integerRange args = .error .invalidArgument := by
  unfold integerRange
  split
  · exact absurd rfl (hone _)
  · exact absurd rfl (htwo _ _)
  · rfl

theorem integerRange_invalidRange {lo hi : Int} (h : hi < lo) :
    integerRange [.int lo, .int hi] = .error .invalidRange := if_neg h.not_ge

theorem nextInteger_of_error {args : List HostNum} {err : HostError} (h : integerRange args = .error err) (s : State) :
    nextInteger args s = .next (.error (.host err), s) := by
  rw [nextInteger, h]
  rfl

/-- A call with a range that is not empty is made of the response of one WORD and leaves CORE as that WORD does. -/
theorem nextInteger_of_word {lo hi : Int} {s t : State} (hle : lo ≤ hi) (h : exec .word s = .next t) :
    nextInteger [.int lo, .int hi] s =
      .next (callResult (fun ds => integerOf (onlyData ds) lo hi) [t.RSP], t.takeResponse) := by
  have hrange : integerRange [.int lo, .int hi] = .ok (lo, hi) := if_pos hle
  rw [nextInteger, hrange]
  exact hostCall_ok _ (issue_single h)

/-- Settles O58: the arguments give an error or a range, and the WORD of a range answers OK or `E_UNSEEDED`. -/
theorem integerCallDrawsOneWord : Obligations.IntegerCallDrawsOneWord := by
  refine ⟨fun args s hone htwo => nextInteger_of_error (integerRange_invalidArgument hone htwo) s,
    fun lo hi s hlt => nextInteger_of_error (integerRange_invalidRange hlt) s, fun _ _ => rfl,
    fun lo hi s hle hs => ?_, fun lo hi s hle hs => ?_⟩
  · refine ⟨_, exec_word_seeded s hs, ?_⟩
    rw [nextInteger_of_word hle (exec_word_seeded s hs), callResult_ok]
    · rfl
    · exact fun r hr => List.mem_singleton.mp hr ▸ rspCode_rspWord .ok _
  · refine ⟨_, exec_word_unseeded s hs, ?_⟩
    have hcode : rspCode (s.errored .eUnseeded 0#32).RSP = 3#4 := rspCode_rspWord .eUnseeded 0#32
    rw [nextInteger_of_word hle (exec_word_unseeded s hs), callResult_error _ (by rw [hcode]; decide), hcode]
    rfl

end Sys2Proof.Machine
end

section
/-!
PROOFS. The shadow commands (43_snapshot_restore.md): SNAP copies the image of the live state (R190), SHRD reads a valid symbol
(R195), LDBEG and LDSYM load one (R198, R200), and RSTR rejects for the first reason that holds, else installs the image (R205).
-/

namespace Sys2Proof.Machine

/-! ### Encodings -/

/-- An operand of 12 bits stands below its opcode (30_encoding.md R90). -/
theorem encodeWith_eq_or (op : BitVec 4) (x : BitVec 12) : encodeWith op x = (op ++ 0#12) ||| x.setWidth 16 := by
  rw [encodeWith, BitVec.append_def, BitVec.append_def, BitVec.setWidth'_eq, BitVec.setWidth'_eq, BitVec.setWidth_zero,
    BitVec.or_zero]

/-! ### SNAP -/

/-- The shadow image after a capture: a cursor or an entry of the live state, cut to its `W` bits, at each position of an image. -/
theorem State.shadowAt_captureImage (s : State) (p : Nat) :
    s.captureImage.shadowAt p =
      if p < s.build.IMG_LEN then (s.imageAt p).toNat % s.build.N else s.shadowAt p := by
  rw [State.shadowAt, State.captureImage_build, State.captureImage_SH, elem_fill, apply_ite BitVec.toNat, narrow, low_toNat,
    State.shadowAt]

theorem State.imageAt_table (s : State) (k : Nat) : s.imageAt (2 + k) = elem s.build .S s.S k := by
  rw [State.imageAt, if_neg (by omega), if_neg (by omega), Nat.add_sub_cancel_left]

/-- Settles O17, by whether there is a live state; each symbol of the image is read where the capture wrote it. -/
theorem snapCapturesLiveState : Obligations.SnapCapturesLiveState := by
  refine ⟨rfl, exec_snap_unseeded, fun s hs => ⟨_, exec_snap_seeded s hs, rfl, ?_, ?_, fun k hk => ?_, fun a ha => ?_⟩⟩
  · exact (s.shadowAt_captureImage 0).trans (if_pos (Nat.succ_pos _))
  · exact (s.shadowAt_captureImage 1).trans (if_pos (Nat.succ_lt_succ (Nat.succ_pos _)))
  · have hp : 2 + k < s.build.IMG_LEN := by unfold Build.IMG_LEN; omega
    refine (s.shadowAt_captureImage (2 + k)).trans ((if_pos hp).trans ?_)
    rw [s.imageAt_table, Nat.mod_eq_of_lt (elem_S_lt _ _ _), State.tableAt]
  · exact (s.shadowAt_captureImage a).trans (if_neg ha.not_gt)

/-! ### SHRD -/

theorem State.shadowIndexValid_iff (s : State) (a : BitVec 12) :
    s.shadowIndexValid a = true ↔ a.toNat < s.CNT ∧ a.toNat < s.build.IMG_LEN := by
  simp [State.shadowIndexValid]

theorem State.shadowIndexValid_eq_false {s : State} {a : BitVec 12} (h : s.CNT ≤ a.toNat ∨ s.build.IMG_LEN ≤ a.toNat) :
    s.shadowIndexValid a = false := by
  rw [← Bool.not_eq_true, s.shadowIndexValid_iff]
  omega

/-- Settles O18, by whether the index is that of a valid symbol. -/
theorem shrdReadsShadow : Obligations.ShrdReadsShadow := by
  refine ⟨encodeWith_eq_or 0x9#4, fun a s hcnt => ?_, fun a s himg => ?_, fun a s hcnt himg => ?_⟩
  · exact exec_shrd_invalid a s (State.shadowIndexValid_eq_false (.inl hcnt))
  · exact exec_shrd_invalid a s (State.shadowIndexValid_eq_false (.inr himg))
  · refine ⟨_, exec_shrd_valid a s ((s.shadowIndexValid_iff a).mpr ⟨hcnt, himg⟩), rfl, rspCode_rspWord _ _, ?_⟩
    rw [State.answered_RSP, rspData_rspWord, zext32_toNat, State.shadowAt]

/-! ### LDBEG and LDSYM -/

/-- Settles O19: LDBEG sets the count and the two flags and answers, on every state. -/
theorem ldbegBeginsLoad : Obligations.LdbegBeginsLoad := ⟨rfl, exec_ldbeg⟩

theorem State.shadowAt_appendSymbol (s : State) (v : BitVec 12) (a : Nat) :
    (s.appendSymbol v).shadowAt a = if a = s.CNT then v.toNat % s.build.N else s.shadowAt a := by
  have hstored : (narrow s.build .SH (valueSym s.build v)).toNat = v.toNat % s.build.N := by
    rw [narrow, valueSym, low_low, low_toNat]
  rw [State.shadowAt, State.appendSymbol_build, State.appendSymbol_SH, elem_put, apply_ite BitVec.toNat, hstored,
    State.shadowAt]

/-- `LDBAD` remembers a value out of range (R200). -/
theorem State.appendSymbol_LDBAD_eq_ite (s : State) (v : BitVec 12) :
    (s.appendSymbol v).LDBAD = if s.build.N ≤ v.toNat then true else s.LDBAD := by
  by_cases hv : s.build.N ≤ v.toNat <;> simp [valueOutOfRange, hv]

/-- Settles O20, by whether the image has room. -/
theorem ldsymAppends : Obligations.LdsymAppends := by
  refine ⟨encodeWith_eq_or 0xB#4, fun v s hroom => ?_, exec_ldsym_full⟩
  refine ⟨_, exec_ldsym_room v s hroom, ?_, ?_, fun a ha => ?_⟩
  · rw [← s.appendSymbol_LDBAD_eq_ite v]
    rfl
  · exact (s.shadowAt_appendSymbol v s.CNT).trans (if_pos rfl)
  · exact (s.shadowAt_appendSymbol v a).trans (if_neg ha)

/-! ### RSTR -/

/-- RSTR's check for `N` different symbols is the check for a bijection of `0 .. N-1` (R206). -/
theorem State.shadowIsPermutation_iff (s : State) :
    s.shadowIsPermutation = true ↔ Bijective s.build.N fun k => s.shadowAt (2 + k) := by
  simp only [Nat.add_comm 2]
  refine ⟨State.shadowTable_bijective, fun h => decide_eq_true (List.nodup_range.map_on fun a ha c hc hac => ?_)⟩
  exact h.injOn (fun _ _ => elem_SH_lt _ _ _) (List.mem_range.mp ha) (List.mem_range.mp hc) (congrArg BitVec.toNat hac)

section
variable {s : State}

theorem State.restoreReason_of_ldovf (hovf : s.LDOVF = true) : s.restoreReason = some 2#32 := if_pos hovf

theorem State.restoreReason_of_cnt (hovf : s.LDOVF = false) (hc : s.CNT ≠ s.build.IMG_LEN) :
    s.restoreReason = some 1#32 := by
  simp [State.restoreReason, hovf, hc]

theorem State.restoreReason_of_ldbad (hovf : s.LDOVF = false) (hc : s.CNT = s.build.IMG_LEN) (hbad : s.LDBAD = true) :
    s.restoreReason = some 3#32 := by
  simp [State.restoreReason, hovf, hc, hbad]

theorem State.restoreReason_of_not_permutation (hovf : s.LDOVF = false) (hc : s.CNT = s.build.IMG_LEN)
    (hbad : s.LDBAD = false) (hp : ¬ s.shadowIsPermutation = true) : s.restoreReason = some 4#32 := by
  simp [State.restoreReason, hovf, hc, hbad, hp]

theorem State.tableAt_installImage {k : Nat} (hk : k < s.build.N) : s.installImage.tableAt k = s.shadowAt (2 + k) := by
  rw [State.tableAt, State.installImage_build, State.installImage_S, elem_fill, if_pos hk, State.shadowAt, Nat.add_comm 2]
  exact congrArg BitVec.toNat (narrow_elem s.build .SH s.SH (k + 2))

end

/-- Settles O21: one reason for each rejection, in RSTR's order, and none for a valid image. -/
theorem rstrValidatesThenInstalls : Obligations.RstrValidatesThenInstalls := by
  refine ⟨rfl, fun s hovf => ?_, fun s hovf hc => ?_, fun s hovf hc hbad => ?_, fun s hovf hc hbad hp => ?_,
    fun s hovf hc hbad hp => ?_⟩
  · exact exec_rstr_invalid s _ (State.restoreReason_of_ldovf hovf)
  · exact exec_rstr_invalid s _ (State.restoreReason_of_cnt hovf hc)
  · exact exec_rstr_invalid s _ (State.restoreReason_of_ldbad hovf hc hbad)
  · rw [← s.shadowIsPermutation_iff] at hp
    exact exec_rstr_invalid s _ (State.restoreReason_of_not_permutation hovf hc hbad hp)
  · rw [← s.shadowIsPermutation_iff] at hp
    exact ⟨_, exec_rstr_valid s (State.restoreReason_of_valid hovf hc hbad hp), rfl, rfl, rfl,
      fun _ => State.tableAt_installImage⟩

end Sys2Proof.Machine
end

section
/-!
PROOFS. Rewinding (43_snapshot_restore.md R208, R210; 41_step.md R156). The image of a seeded block of the invariant is valid; SNAP
leaves it loaded in the shadow bank, the commands R210 allows keep it there, and RSTR of a loaded valid image installs it. A
rejected RSTR keeps the live state, and the symbols a block returns depend on nothing else.
-/

namespace Sys2Proof.Machine

/-! ### Valid images -/

/-- An image RSTR accepts once it is loaded: `IMG_LEN` symbols in range whose table has no two equal entries (R205). -/
structure ValidImage (b : Build) (image : List (BitVec 12)) : Prop where
  length_eq : image.length = b.IMG_LEN
  lt : ∀ v ∈ image, v.toNat < b.N
  table_nodup : (image.drop 2).Nodup

/-- The image of the live state as LDSYM takes it: each symbol as a 12-bit value (30_encoding.md R104). -/
def State.operandImage (s : State) : List (BitVec 12) := s.image.map fun v => v.setWidth 12

theorem setWidth_operand_toNat (v : Sym) : (v.setWidth 12).toNat = v.toNat := BitVec.toNat_setWidth_of_le (by decide)

theorem setWidth_operand_injective : Function.Injective fun v : Sym => v.setWidth 12 := fun v w h =>
  BitVec.eq_of_toNat_eq (by rw [← setWidth_operand_toNat v, ← setWidth_operand_toNat w]; exact congrArg BitVec.toNat h)

theorem State.length_image (s : State) : s.image.length = s.build.IMG_LEN := by
  simp [State.image]

section
variable {s : State}

theorem Inv.validImage (h : Inv s) (hs : s.SEEDED = true) : ValidImage s.build s.operandImage where
  length_eq := (List.length_map _).trans s.length_image
  lt := by
    refine List.forall_mem_map.mpr fun v hv => ?_
    rw [setWidth_operand_toNat]
    exact h.image_lt hv
  table_nodup := by
    rw [State.operandImage, ← List.map_drop]
    exact (h.image_table_nodup hs).map setWidth_operand_injective

/-- The operands stand for the symbols they were made of. -/
theorem Inv.map_valueSym_operandImage (h : Inv s) : s.operandImage.map (valueSym s.build) = s.image := by
  rw [State.operandImage, List.map_map]
  exact (List.map_congr_left fun v hv => valueSym_setWidth (h.image_lt hv)).trans (List.map_id _)

end

/-! ### The shadow bank between SNAP and RSTR -/

section
variable {b : Build} {image : List (BitVec 12)} {s t : State}

/-- Whether an image is loaded is a matter of the build and the shadow bank. -/
theorem Loaded.congr (h : Loaded b image s) (hb : t.build = s.build) (hsh : t.shadowBank = s.shadowBank) :
    Loaded b image t := by
  obtain ⟨hSH, hCNT, hLDBAD, hLDOVF⟩ := (s.shadowBank_eq_iff t).mp hsh
  refine ⟨hb.trans h.build, ?_, hLDBAD.trans h.ldbad, hLDOVF.trans h.ldovf⟩
  rw [← h.symbols, State.loaded, State.loaded, hSH, hCNT, hb]

/-- RSTR of a loaded valid image answers OK and makes it the image of the live state. -/
theorem Loaded.exec_rstr (h : Loaded b image s) (hv : ValidImage b image) :
    exec .rstr s = .next (s.installImage.answered .ok 0#32) ∧ s.installImage.image = image.map (valueSym b) := by
  have hc : s.CNT = s.build.IMG_LEN := by rw [h.cnt, hv.length_eq, h.build]
  exact ⟨exec_rstr_valid s (h.restoreReason hv.length_eq hv.lt hv.table_nodup),
    (State.image_installImage hc).trans h.symbols⟩

/-- The symbols of a captured image are those of the live state, when they are in range: none is then cut. -/
theorem State.loaded_captureImage (h : ∀ v ∈ s.image, v.toNat < s.build.N) : s.captureImage.loaded = s.image := by
  refine List.map_congr_left fun p hp => BitVec.eq_of_toNat_eq ?_
  refine (s.shadowAt_captureImage p).trans ((if_pos (List.mem_range.mp hp)).trans ?_)
  exact Nat.mod_eq_of_lt (h _ (List.mem_map_of_mem hp))

/-- SNAP loads the image of the live state. -/
theorem Inv.loaded_snap (h : Inv s) :
    Loaded s.build s.operandImage (s.captureImage.answered .ok 0#32).takeResponse where
  build := rfl
  symbols := (State.loaded_captureImage fun _ => h.image_lt).trans h.map_valueSym_operandImage.symm
  ldbad := rfl
  ldovf := rfl

theorem exec_rewindSafe_keeps_shadowBank {i : Instr} (hi : RewindSafe i) (s : State) :
    Keeps State.shadowBank s (exec i s) := by
  obtain ⟨hinit, hsnap, hldbeg, hrstr, hldsym⟩ := hi
  cases i with
  | init => exact absurd rfl hinit
  | snap => exact absurd rfl hsnap
  | ldbeg => exact absurd rfl hldbeg
  | rstr => exact absurd rfl hrstr
  | ldsym v => exact absurd rfl (hldsym v)
  | kclr | seed | aseed | next | word => exact exec_keeps_shadowBank (.inl (by simp)) s
  | keyb v => exact exec_keeps_shadowBank (.inr ⟨v, rfl⟩) s
  | nop | clre => exact .next rfl
  | shrd a | rdcsr n => exact .ite (.next rfl) (.next rfl)

theorem Loaded.exec_rewindSafe (h : Loaded b image s) {i : Instr} (hi : RewindSafe i) (he : exec i s = .next t) :
    Loaded b image t.takeResponse :=
  h.congr (exec_keeps_build i s t he) (exec_rewindSafe_keeps_shadowBank hi s t he)

theorem Loaded.run_rewindSafe {is : List Instr} (h : Loaded b image s) (his : ∀ i ∈ is, RewindSafe i) :
    ∃ t, runCommands is s = .next t ∧ Loaded b image t := by
  induction is generalizing s with
  | nil => exact ⟨s, rfl, h⟩
  | cons i is ih =>
    obtain ⟨hi, his⟩ := List.forall_mem_cons.mp his
    obtain ⟨u, hu, -⟩ := exec_answers i s
    obtain ⟨t, ht, hl⟩ := ih (h.exec_rewindSafe hi hu) his
    exact ⟨t, by simp only [runCommands, hu, ht], hl⟩

theorem Inv.run_snap_rewindSafe (h : Inv s) (hs : s.SEEDED = true) {between : List Instr}
    (hbetween : ∀ i ∈ between, RewindSafe i) :
    ∃ t, runCommands (.snap :: between) s = .next t ∧ Loaded s.build s.operandImage t := by
  obtain ⟨t, ht, hl⟩ := h.loaded_snap.run_rewindSafe hbetween
  exact ⟨t, by simp only [runCommands, exec_snap_seeded s hs, ht], hl⟩

end

/-! ### Blocks with one live state -/

section
variable {s t : State}

/-- Live states alike, in the terms the statements read them in. -/
theorem LiveSame.tableAt (h : LiveSame s.build t.live s.live) (hb : t.build = s.build) {a : Nat} (ha : a < s.build.N) :
    t.tableAt a = s.tableAt a := by
  rw [State.tableAt, hb]
  exact congrArg BitVec.toNat (h.table a ha)

theorem liveSame_of_liveBank (h : t.liveBank = s.liveBank) : LiveSame s.build t.live s.live := by
  obtain ⟨hS, hI, hJ, -⟩ := (s.liveBank_eq_iff t).mp h
  exact ⟨hI, hJ, fun a _ => congrArg (elem s.build .S · a) hS⟩

theorem nextSymbols_unseeded (hs : s.SEEDED = false) (n : Nat) : nextSymbols n s = List.replicate n 0#32 := by
  induction n generalizing s with
  | zero => rfl
  | succ n ih =>
    simp only [nextSymbols, exec_next_unseeded s hs, State.errored_RSP, rspData_rspWord, List.replicate_succ]
    exact congrArg _ (ih hs)

/-- The symbols a block returns, seeded or not, depend on its build and its live state alone (41_step.md R156). -/
theorem nextSymbols_of_liveBank (hb : t.build = s.build) (h : t.liveBank = s.liveBank) (n : Nat) :
    nextSymbols n t = nextSymbols n s := by
  obtain ⟨-, -, -, hseeded⟩ := (s.liveBank_eq_iff t).mp h
  cases hs : s.SEEDED with
  | true => exact nextSymbols_of_liveSame n hs (hseeded.trans hs) (congrArg _ hb) (liveSame_of_liveBank h)
  | false => rw [nextSymbols_unseeded hs, nextSymbols_unseeded (hseeded.trans hs)]

end

/-- Settles O46: a rejected RSTR is one error entry, which keeps the build and the live state. -/
theorem failedRestoreIsInvisible : Obligations.FailedRestoreIsInvisible := by
  intro s t n h hc
  obtain ⟨r, rfl⟩ := exec_rstr_failed h hc
  refine ⟨?_, rfl, rfl, rfl, rfl,
    nextSymbols_of_liveBank (s := s) (t := (s.errored .eState r).takeResponse) rfl rfl n⟩
  rw [State.errored_RSP, rspData_rspWord]

/-- Settles O43: the image SNAP loaded is still loaded at RSTR, valid, and the image of the live state it was taken of. -/
theorem rewindReturnsToSnapshot : Obligations.RewindReturnsToSnapshot := by
  intro s between n h hs hbetween
  obtain ⟨u, hu, hl⟩ := h.run_snap_rewindSafe hs hbetween
  obtain ⟨hrstr, himage⟩ := hl.exec_rstr (h.validImage hs)
  have hsame : LiveSame s.build u.installImage.live s.live :=
    liveSame_of_image (congrArg _ hl.build) (himage.trans h.map_valueSym_operandImage)
  refine ⟨(u.installImage.answered .ok 0#32).takeResponse, ?_, rspCode_rspWord .ok 0#32, rfl, hsame.i_eq, hsame.j_eq,
    fun a ha => hsame.tableAt hl.build ha, nextSymbols_of_liveSame n hs rfl (congrArg _ hl.build) hsame⟩
  rw [runCommands_append hu]
  simp only [runCommands, hrstr]

end Sys2Proof.Machine
end

section
/-!
PROOFS. The text form of an image (43_snapshot_restore.md R215 to R219): a text is the digits of its symbols, and reading digits
as characters, and symbols as digits, can both be undone.
-/

namespace Sys2Proof.Machine

/-! ### Digits and characters -/

theorem hexValue?_hexDigit : ∀ d, d < 16 → hexValue? (hexDigit d) = some d := by decide

theorem hexDigit_of_hexValue? {c : Char} {d : Nat} (h : hexValue? c = some d) : d < 16 ∧ hexDigit d = c := by
  obtain ⟨hd, hc, -⟩ := List.findIdx?_eq_some_iff_getElem.mp h
  refine ⟨hd, ?_⟩
  rw [hexDigit, List.getD_eq_getElem _ _ hd]
  exact of_decide_eq_true hc

theorem mapM_hexValue?_map_hexDigit {ds : List Nat} (h : ∀ d ∈ ds, d < 16) :
    (ds.map hexDigit).mapM hexValue? = some ds := by
  induction ds with
  | nil => rfl
  | cons d ds ih =>
    obtain ⟨hd, hds⟩ := List.forall_mem_cons.mp h
    simp [hexValue?_hexDigit d hd, ih hds]

theorem map_hexDigit_of_mapM_hexValue? {cs : List Char} {ds : List Nat} (h : cs.mapM hexValue? = some ds) :
    (∀ d ∈ ds, d < 16) ∧ ds.map hexDigit = cs := by
  induction cs generalizing ds with
  | nil => cases h; simp
  | cons c cs ih =>
    simp only [List.mapM_cons, Option.pure_def, Option.bind_eq_bind, Option.bind_eq_some_iff, Option.some.injEq] at h
    obtain ⟨d, hd, ds, hds, rfl⟩ := h
    obtain ⟨hlt, hc⟩ := hexDigit_of_hexValue? hd
    obtain ⟨hlts, hcs⟩ := ih hds
    exact ⟨List.forall_mem_cons.mpr ⟨hlt, hlts⟩, by rw [List.map_cons, hc, hcs]⟩

/-! ### Symbols and digits -/

theorem Build.TXT_LEN_of_w8 {b : Build} (h : b.width = .w8) : b.TXT_LEN = 2 * b.IMG_LEN := by
  simp only [Build.TXT_LEN, Build.W, h]
  omega

theorem Build.TXT_LEN_of_w4 {b : Build} (h : b.width = .w4) : b.TXT_LEN = b.IMG_LEN := by
  simp only [Build.TXT_LEN, Build.W, h]
  omega

/-- The digits of a symbol value, the most significant first (R215). -/
def symbolDigits (b : Build) (n : Nat) : List Nat :=
  match b.width with
  | .w8 => [n / 16, n % 16]
  | .w4 => [n % 16]

theorem symbolText_eq (b : Build) (v : Sym) : symbolText b v = (symbolDigits b v.toNat).map hexDigit := by
  unfold symbolText symbolDigits
  cases b.width <;> rfl

theorem imageText_eq (b : Build) (image : List Sym) :
    imageText b image = ((image.map BitVec.toNat).flatMap (symbolDigits b)).map hexDigit := by
  rw [imageText, List.flatMap_map, List.map_flatMap]
  exact congrArg (List.flatMap · image) (funext (symbolText_eq b))

theorem symbolDigits_lt {b : Build} {n : Nat} (h : n < b.N) : ∀ d ∈ symbolDigits b n, d < 16 := by
  have hN := Build.N_le b
  unfold symbolDigits
  split
  · simp only [List.forall_mem_cons]
    exact ⟨by omega, by omega, nofun⟩
  · simp only [List.forall_mem_cons]
    exact ⟨by omega, nofun⟩

/-- Two digits a symbol, grouped again. -/
theorem pairDigits_flatMap (ns : List Nat) : pairDigits (ns.flatMap fun n => [n / 16, n % 16]) = ns := by
  induction ns with
  | nil => rfl
  | cons n ns ih =>
    simp only [List.flatMap_cons, List.cons_append, List.nil_append, pairDigits, ih]
    rw [Nat.div_add_mod']

/-- An even number of digits gives half as many symbols, with those digits. -/
theorem pairDigits_spec {ds : List Nat} (h : ∀ d ∈ ds, d < 16) {k : Nat} (hlen : ds.length = 2 * k) :
    (pairDigits ds).length = k ∧ (∀ n ∈ pairDigits ds, n < 256) ∧
      (pairDigits ds).flatMap (fun n => [n / 16, n % 16]) = ds := by
  induction ds using pairDigits.induct generalizing k with
  | case1 d e rest ih =>
    simp only [List.forall_mem_cons] at h
    obtain ⟨hd, he, hrest⟩ := h
    simp only [List.length_cons] at hlen
    obtain ⟨hl, hlt, hds⟩ := ih hrest (k := k - 1) (by omega)
    have hhigh : (d * 16 + e) / 16 = d := by omega
    have hlow : (d * 16 + e) % 16 = e := by omega
    simp only [pairDigits, List.length_cons, List.forall_mem_cons, List.flatMap_cons, hl, hds, hhigh, hlow]
    exact ⟨by omega, ⟨by omega, hlt⟩, rfl⟩
  | case2 d => simp only [List.length_singleton] at hlen; omega
  | case3 =>
    rw [List.length_nil] at hlen
    exact ⟨(by omega : 0 = k), nofun, rfl⟩

/-- One digit a symbol. -/
theorem flatMap_mod_sixteen {ds : List Nat} (h : ∀ d ∈ ds, d < 16) : (ds.flatMap fun n => [n % 16]) = ds := by
  rw [← List.map_eq_flatMap]
  exact (List.map_congr_left fun d hd => Nat.mod_eq_of_lt (h d hd)).trans (List.map_id _)

/-- Grouping the digits of symbols gives the symbols back. -/
theorem groupDigits_flatMap_symbolDigits {b : Build} {ns : List Nat} (h : ∀ n ∈ ns, n < b.N) :
    groupDigits b (ns.flatMap (symbolDigits b)) = ns := by
  obtain ⟨width, entLen⟩ := b
  cases width with
  | w8 => exact pairDigits_flatMap ns
  | w4 => exact flatMap_mod_sixteen h

/-- The digits of a text are the digits of the `IMG_LEN` symbols they are grouped into. -/
theorem groupDigits_spec {b : Build} {ds : List Nat} (h : ∀ d ∈ ds, d < 16) (hlen : ds.length = b.TXT_LEN) :
    (groupDigits b ds).length = b.IMG_LEN ∧ (∀ n ∈ groupDigits b ds, n < b.N) ∧
      (groupDigits b ds).flatMap (symbolDigits b) = ds := by
  obtain ⟨width, entLen⟩ := b
  cases width with
  | w8 => exact pairDigits_spec h (hlen.trans (Build.TXT_LEN_of_w8 rfl))
  | w4 => exact ⟨hlen.trans (Build.TXT_LEN_of_w4 rfl), h, flatMap_mod_sixteen h⟩

theorem length_flatMap_symbolDigits {b : Build} {ns : List Nat} (h : ns.length = b.IMG_LEN) :
    (ns.flatMap (symbolDigits b)).length = b.TXT_LEN := by
  obtain ⟨width, entLen⟩ := b
  cases width with
  | w8 => simp [symbolDigits, Build.TXT_LEN_of_w8, h, Nat.mul_comm]
  | w4 => simp [symbolDigits, Build.TXT_LEN_of_w4, h]

/-! ### Texts -/

/-- A text that parses is the text of `IMG_LEN` symbol values, all in range, and parses to those. -/
theorem parseImage_eq_ok {b : Build} {text : List Char} {image : List (BitVec 12)} (h : parseImage b text = .ok image) :
    ∃ ns : List Nat, image = ns.map (BitVec.ofNat 12) ∧ ns.length = b.IMG_LEN ∧ (∀ n ∈ ns, n < b.N) ∧
      (ns.flatMap (symbolDigits b)).map hexDigit = text := by
  unfold parseImage at h
  split at h
  · next hlen =>
    split at h
    · next ds hds =>
      cases h
      obtain ⟨hlt, rfl⟩ := map_hexDigit_of_mapM_hexValue? hds
      obtain ⟨hl, hn, hd⟩ := groupDigits_spec hlt ((List.length_map _).symm.trans hlen)
      exact ⟨_, rfl, hl, hn, by rw [hd]⟩
    · cases h
  · cases h

theorem parseImage_of_digits {b : Build} {ds : List Nat} (h : ∀ d ∈ ds, d < 16) (hlen : ds.length = b.TXT_LEN) :
    parseImage b (ds.map hexDigit) = .ok ((groupDigits b ds).map (BitVec.ofNat 12)) := by
  rw [parseImage, if_pos ((List.length_map _).trans hlen), mapM_hexValue?_map_hexDigit h]

theorem length_of_parseImage {b : Build} {text : List Char} {image : List (BitVec 12)} (h : parseImage b text = .ok image) :
    image.length = b.IMG_LEN := by
  obtain ⟨ns, rfl, hlen, -, -⟩ := parseImage_eq_ok h
  exact (List.length_map _).trans hlen

/-- The symbols a text parses to are in range. -/
theorem parseImage_lt {b : Build} {text : List Char} {image : List (BitVec 12)} (h : parseImage b text = .ok image) :
    ∀ v ∈ image, v.toNat < b.N := by
  obtain ⟨ns, rfl, -, hlt, -⟩ := parseImage_eq_ok h
  refine List.forall_mem_map.mpr fun n hn => ?_
  rw [BitVec.toNat_ofNat]
  exact (Nat.mod_le _ _).trans_lt (hlt n hn)

theorem parseImage_imageText {b : Build} {image : List Sym} (hlen : image.length = b.IMG_LEN)
    (hlt : ∀ v ∈ image, v.toNat < b.N) :
    parseImage b (imageText b image) = .ok (image.map fun v => v.setWidth 12) := by
  have hn : ∀ n ∈ image.map BitVec.toNat, n < b.N := List.forall_mem_map.mpr hlt
  have hd : ∀ d ∈ (image.map BitVec.toNat).flatMap (symbolDigits b), d < 16 := fun d hd => by
    obtain ⟨n, hmem, hd⟩ := List.mem_flatMap.mp hd
    exact symbolDigits_lt (hn n hmem) d hd
  rw [imageText_eq, parseImage_of_digits hd (length_flatMap_symbolDigits ((List.length_map _).trans hlen)),
    groupDigits_flatMap_symbolDigits hn, List.map_map]
  exact congrArg Except.ok (List.map_congr_left fun v _ => BitVec.ofNat_toNat 12 v)

theorem imageText_of_parseImage {b : Build} {text : List Char} {image : List (BitVec 12)} (h : parseImage b text = .ok image) :
    imageText b (image.map fun v => v.setWidth 8) = text := by
  obtain ⟨ns, rfl, -, hlt, htext⟩ := parseImage_eq_ok h
  have hN := Build.N_le b
  have hback : ((ns.map (BitVec.ofNat 12)).map fun v => v.setWidth 8).map BitVec.toNat = ns := by
    rw [List.map_map, List.map_map]
    refine (List.map_congr_left fun n hn => ?_).trans (List.map_id _)
    have := hlt n hn
    simp only [Function.comp_apply, BitVec.toNat_setWidth, BitVec.toNat_ofNat, id]
    omega
  rw [imageText_eq, hback, htext]

/-- Settles O53: digits and characters, and symbols and digits, both go back and forth. -/
theorem imageTextRoundTrips : Obligations.ImageTextRoundTrips := by
  refine ⟨fun b image hlen hlt => ⟨?_, parseImage_imageText hlen hlt⟩,
    fun b text image h => ⟨length_of_parseImage h, imageText_of_parseImage h⟩⟩
  rw [imageText_eq, List.length_map]
  exact length_flatMap_symbolDigits ((List.length_map _).trans hlen)

end Sys2Proof.Machine
end

section
/-!
PROOFS. The two calls on the text form (43_snapshot_restore.md R216 to R219). `snapshotCompact` is SNAP and one SHRD a symbol, which
read out the captured image and leave the live state; `restoreCompact` loads what the text parses to, where no command but the
closing RSTR can fail.
-/

namespace Sys2Proof.Machine

/-! ### Calls -/

theorem rspCode_of_callResult_ok {α : Type} {value : List Data → α} {rs : List RspWord} {x : α}
    (h : callResult value rs = .ok x) : ∀ r ∈ rs, rspCode r = 0#4 := by
  unfold callResult at h
  split at h
  · cases h
  · next hnone => simpa using List.find?_eq_none.mp hnone

/-- The command answers OK on every state. -/
def AnswersOk (i : Instr) : Prop := ∀ s, ∃ t, exec i s = .next t ∧ rspCode t.RSP = 0#4

theorem answersOk_ldbeg : AnswersOk .ldbeg := fun s => ⟨_, exec_ldbeg s, rspCode_rspWord .ok _⟩

theorem answersOk_ldsym (v : BitVec 12) : AnswersOk (.ldsym v) := fun s => by
  by_cases h : s.CNT < s.build.IMG_LEN
  · exact ⟨_, exec_ldsym_room v s h, rspCode_rspWord .ok _⟩
  · exact ⟨_, exec_ldsym_full v s h, rspCode_rspWord .ok _⟩

theorem answersOk_loadCommands (image : List (BitVec 12)) : ∀ i ∈ loadCommands image, AnswersOk i :=
  List.forall_mem_cons.mpr ⟨answersOk_ldbeg, List.forall_mem_map.mpr fun v _ => answersOk_ldsym v⟩

theorem issue_of_answersOk {is : List Instr} (h : ∀ i ∈ is, AnswersOk i) {s t : State} (hr : runCommands is s = .next t) :
    ∃ rs, issue is s = .next (rs, t) ∧ ∀ r ∈ rs, rspCode r = 0#4 := by
  induction is generalizing s with
  | nil => cases hr; exact ⟨[], rfl, nofun⟩
  | cons i is ih =>
    obtain ⟨hi, his⟩ := List.forall_mem_cons.mp h
    obtain ⟨u, hu, hok⟩ := hi s
    rw [runCommands, hu] at hr
    obtain ⟨rs, hrs, hoks⟩ := ih his hr
    exact ⟨_, issue_cons hu hrs, List.forall_mem_cons.mpr ⟨hok, hoks⟩⟩

/-! ### `restoreCompact` -/

section
variable {s : State} {text : List Char} {image : List (BitVec 12)}

/-- A text that parses is loaded, and the answer of RSTR decides. -/
theorem restoreCompact_of_rstr {u t : State} (hp : parseImage s.build text = .ok image)
    (hu : runCommands (loadCommands image) s = .next u) (ht : exec .rstr u = .next t) :
    ∃ rs, restoreCompact text s = .next (callResult (fun _ => ()) (rs ++ [t.RSP]), t.takeResponse) ∧
      ∀ r ∈ rs, rspCode r = 0#4 := by
  obtain ⟨rs, hrs, hok⟩ := issue_of_answersOk (answersOk_loadCommands image) hu
  refine ⟨rs, ?_, hok⟩
  rw [restoreCompact, restoreCompactCommands, hp]
  exact hostCall_ok _ (issue_append hrs (issue_single ht))

/-- A text that parses leaves its symbols loaded; the call accepts it exactly when RSTR finds no reason against them, and then leaves
what RSTR leaves. -/
theorem restoreCompact_eq_ok_iff (hp : parseImage s.build text = .ok image) :
    ∃ u, Loaded s.build image u ∧ ∀ t, restoreCompact text s = .next (.ok (), t) ↔
      u.restoreReason = none ∧ t = (u.installImage.answered .ok 0#32).takeResponse := by
  obtain ⟨u, hu, hl⟩ := run_loadCommands s (length_of_parseImage hp).le (parseImage_lt hp)
  refine ⟨u, hl, fun t => ?_⟩
  cases hr : u.restoreReason with
  | some r =>
    obtain ⟨rs, hcall, -⟩ := restoreCompact_of_rstr hp hu (exec_rstr_invalid u r hr)
    refine ⟨fun h => ?_, nofun⟩
    obtain ⟨hresult, -⟩ := Prod.mk.inj (Host.Outcome.next.inj (hcall.symm.trans h))
    have hcode := rspCode_of_callResult_ok hresult _ List.mem_concat_self
    exact absurd ((rspCode_rspWord .eState r).symm.trans hcode) (by decide)
  | none =>
    obtain ⟨rs, hcall, hok⟩ := restoreCompact_of_rstr hp hu (exec_rstr_valid u hr)
    rw [hcall, callResult_ok]
    · simp [eq_comm]
    · exact List.forall_mem_append.mpr ⟨hok, List.forall_mem_singleton.mpr (rspCode_rspWord .ok _)⟩

theorem parseImage_of_restoreCompact_ok {t : State} (h : restoreCompact text s = .next (.ok (), t)) :
    ∃ image, parseImage s.build text = .ok image := by
  cases hp : parseImage s.build text with
  | ok image => exact ⟨image, rfl⟩
  | error e => rw [restoreCompact, restoreCompactCommands, hp] at h; cases h

end

/-! ### `snapshotCompact` -/

section
variable {s : State}

/-- Reading symbols of the shadow image out: each is answered, and the build and the live state stay. -/
theorem issue_shrd {as : List (BitVec 12)} (h : ∀ a ∈ as, s.shadowIndexValid a = true) :
    ∃ t, issue (as.map Instr.shrd) s =
        .next (as.map fun a => rspWord .ok (zext32 (elem s.build .SH s.SH a.toNat)), t) ∧
      t.build = s.build ∧ t.liveBank = s.liveBank := by
  induction as generalizing s with
  | nil => exact ⟨s, rfl, rfl, rfl⟩
  | cons a as ih =>
    obtain ⟨ha, has⟩ := List.forall_mem_cons.mp h
    obtain ⟨t, ht, hb, hl⟩ := ih (s := (s.answered .ok (zext32 (elem s.build .SH s.SH a.toNat))).takeResponse) has
    exact ⟨t, issue_cons (exec_shrd_valid a s ha) ht, hb, hl⟩

/-- The operands of the SHRDs of a dump are the positions of an image. -/
theorem toNat_dumpOperand {b : Build} {p : Nat} (hp : p < b.IMG_LEN) : (BitVec.ofNat 12 p).toNat = p := by
  have hN := Build.N_le b
  unfold Build.IMG_LEN at hp
  rw [BitVec.toNat_ofNat]
  omega

theorem setWidth_zext32 (v : Sym) : (zext32 v).setWidth 8 = v := by
  apply BitVec.eq_of_toNat_eq
  rw [BitVec.toNat_setWidth, zext32_toNat, Nat.mod_eq_of_lt v.isLt]

/-- The SHRDs of a dump read out the whole of a full shadow image. -/
theorem issue_dump_shrd (hc : s.CNT = s.build.IMG_LEN) :
    ∃ rs t, issue ((List.range s.build.IMG_LEN).map fun a => Instr.shrd (BitVec.ofNat 12 a)) s = .next (rs, t) ∧
      (∀ r ∈ rs, rspCode r = 0#4) ∧ ((rs.map rspData).map fun d => d.setWidth 8) = s.loaded ∧
      t.build = s.build ∧ t.liveBank = s.liveBank := by
  have hvalid : ∀ a ∈ (List.range s.build.IMG_LEN).map (BitVec.ofNat 12), s.shadowIndexValid a = true := by
    refine List.forall_mem_map.mpr fun p hp => (s.shadowIndexValid_iff _).mpr ?_
    have hp := List.mem_range.mp hp
    rw [toNat_dumpOperand hp, hc]
    exact ⟨hp, hp⟩
  obtain ⟨t, ht, hb, hl⟩ := issue_shrd hvalid
  rw [List.map_map, List.map_map] at ht
  refine ⟨_, t, ht, List.forall_mem_map.mpr fun _ _ => rspCode_rspWord .ok _, ?_, hb, hl⟩
  rw [List.map_map, List.map_map, State.loaded, hc]
  refine List.map_congr_left fun p hp => ?_
  simp only [Function.comp_apply, rspData_rspWord, setWidth_zext32, toNat_dumpOperand (List.mem_range.mp hp)]

/-- On a seeded block with its image in range. -/
theorem snapshotCompact_seeded (hs : s.SEEDED = true) (hlt : ∀ v ∈ s.image, v.toNat < s.build.N) :
    ∃ t, snapshotCompact s = .next (.ok (imageText s.build s.image), t) ∧ t.build = s.build ∧ t.liveBank = s.liveBank := by
  obtain ⟨rs, t, ht, hok, hdump, hb, hl⟩ :=
    issue_dump_shrd (s := (s.captureImage.answered .ok 0#32).takeResponse) rfl
  have hissue : issue (dumpCommands s.build) s = .next (rspWord .ok 0#32 :: rs, t) :=
    issue_cons (exec_snap_seeded s hs) ht
  have hall : ∀ r ∈ rspWord .ok 0#32 :: rs, rspCode r = 0#4 := List.forall_mem_cons.mpr ⟨rspCode_rspWord .ok _, hok⟩
  have himage : dumpedImage ((rspWord .ok 0#32 :: rs).map rspData) = s.image :=
    hdump.trans (State.loaded_captureImage hlt)
  refine ⟨t, ?_, hb, hl⟩
  rw [snapshotCompact, hostCall_ok _ hissue, callResult_ok _ hall, himage]

theorem snapshotCompact_unseeded (hs : s.SEEDED = false) : ∃ t, snapshotCompact s = .next (.error (.core 3#4), t) := by
  have hcode : rspCode (s.errored .eUnseeded 0#32).RSP = 3#4 := rspCode_rspWord .eUnseeded 0#32
  obtain ⟨rs, t, ht, -, -⟩ := issue_answers ((List.range s.build.IMG_LEN).map fun a => Instr.shrd (BitVec.ofNat 12 a))
    (s.errored .eUnseeded 0#32).takeResponse
  have hissue : issue (dumpCommands s.build) s = .next ((s.errored .eUnseeded 0#32).RSP :: rs, t) :=
    issue_cons (exec_snap_unseeded s hs) ht
  refine ⟨t, ?_⟩
  rw [snapshotCompact, hostCall_ok _ hissue, callResult_error _ (by rw [hcode]; decide), hcode]
  rfl

end

/-! ### The two calls together -/

theorem valueSym_eq_setWidth {b : Build} {v : BitVec 12} (h : v.toNat < b.N) : valueSym b v = v.setWidth 8 := by
  have hN := Build.N_le b
  apply BitVec.eq_of_toNat_eq
  rw [valueSym_toNat b v h, BitVec.toNat_setWidth]
  omega

/-- The text of a seeded block, restored into any block of the same build, makes its live state that of the text. -/
theorem restoreCompact_imageText {s t : State} (h : Inv s) (hs : s.SEEDED = true) (hb : t.build = s.build) :
    ∃ u, restoreCompact (imageText s.build s.image) t = .next (.ok (), u) ∧
      u.build = s.build ∧ u.SEEDED = true ∧ LiveSame s.build u.live s.live := by
  have hp : parseImage t.build (imageText s.build s.image) = .ok s.operandImage := by
    rw [hb]
    exact parseImage_imageText s.length_image fun _ => h.image_lt
  obtain ⟨v, hl, hiff⟩ := restoreCompact_eq_ok_iff hp
  rw [hb] at hl
  have hv := h.validImage hs
  have himage := (hl.exec_rstr hv).2.trans h.map_valueSym_operandImage
  exact ⟨_, (hiff _).mpr ⟨hl.restoreReason hv.length_eq hv.lt hv.table_nodup, rfl⟩, hl.build, rfl,
    liveSame_of_image (s := s) (t := v.installImage) (congrArg _ hl.build) himage⟩

/-- The text a block has accepted is the text of its live state. -/
theorem snapshotCompact_of_restoreCompact {s t : State} {text : List Char}
    (h : restoreCompact text s = .next (.ok (), t)) : ∃ u, snapshotCompact t = .next (.ok text, u) := by
  obtain ⟨image, hp⟩ := parseImage_of_restoreCompact_ok h
  obtain ⟨u, hl, hiff⟩ := restoreCompact_eq_ok_iff hp
  obtain ⟨hreason, rfl⟩ := (hiff t).mp h
  obtain ⟨-, hc, -, -⟩ := State.restoreReason_eq_none hreason
  have himage : u.installImage.image = image.map (valueSym s.build) := (State.image_installImage hc).trans hl.symbols
  have hlt : ∀ v ∈ u.installImage.image, v.toNat < u.build.N := by
    rw [himage, hl.build]
    exact List.forall_mem_map.mpr fun v _ => low_lt _ _
  have htext : imageText u.build u.installImage.image = text := by
    rw [himage, hl.build, List.map_congr_left fun v hv => valueSym_eq_setWidth (parseImage_lt hp v hv)]
    exact imageText_of_parseImage hp
  obtain ⟨w, hw, -, -⟩ := snapshotCompact_seeded (s := (u.installImage.answered .ok 0#32).takeResponse) rfl hlt
  exact ⟨w, htext ▸ hw⟩

/-- Settles O59: a dump keeps the live state, its text restores to it, and an accepted text is the text of what it made. -/
theorem compactCallsRoundTrip : Obligations.CompactCallsRoundTrip := by
  refine ⟨fun s h hs => ?_, fun _ _ _ => snapshotCompact_of_restoreCompact, fun _ => snapshotCompact_unseeded⟩
  obtain ⟨t, ht, hb, hlive⟩ := snapshotCompact_seeded hs fun _ => h.image_lt
  obtain ⟨u, hu, hub, huseeded, husame⟩ := restoreCompact_imageText h hs hb
  have htsame := liveSame_of_liveBank hlive
  obtain ⟨-, -, -, hseeded⟩ := (s.liveBank_eq_iff t).mp hlive
  exact ⟨t, u, ht, hu, ⟨hseeded.trans hs, htsame.i_eq, htsame.j_eq, fun a ha => htsame.tableAt hb ha⟩,
    ⟨huseeded, husame.i_eq, husame.j_eq, fun a ha => husame.tableAt hub ha⟩⟩

end Sys2Proof.Machine
end

section
/-!
PROOFS. The system commands (44_system.md): NOP and CLRE leave everything but the response and, for CLRE, the error record (R231,
R239); INIT is a soft reset (R233); RDCSR reads one of the four registers as they are computed from the state (R236, 10_state.md
R38 to R41).
-/

namespace Sys2Proof.Machine

/-! ### NOP, INIT and CLRE -/

/-- Settles O7: NOP is the answer and nothing else, on every state. -/
theorem nopOnlyAnswers : Obligations.NopOnlyAnswers := ⟨rfl, exec_nop⟩

/-- Settles O8: soft reset leaves each register at the stated value, and the cleared `SEEDED` decides the NEXT that follows. -/
theorem initIsSoftReset : Obligations.InitIsSoftReset :=
  ⟨rfl, fun s => ⟨_, exec_init s, rfl, rfl, rfl, rfl, rfl, rfl, rfl, rfl, rfl, rfl, rfl, rfl, rfl, exec_next_unseeded _ rfl⟩⟩

/-- Settles O23: CLRE clears the two fields of the error record and answers, on every state. -/
theorem clreClearsErrorRecord : Obligations.ClreClearsErrorRecord := ⟨rfl, exec_clre⟩

/-! ### The fields of STATUS -/

/-- A flag appended below `x` is bit 0, and each bit of `x` stands one place higher. -/
theorem getLsbD_append_flag {w : Nat} (x : BitVec w) (f : Bool) (n : Nat) :
    (x ++ flag f).getLsbD n = if n = 0 then f else x.getLsbD (n - 1) := by
  rw [BitVec.getLsbD_append]
  by_cases hn : n = 0
  · simp [hn, flag]
  · rw [if_neg hn, if_neg (by omega)]

theorem isW4_iff (b : Build) : isW4 b = true ↔ b.width = .w4 := by
  unfold isW4
  cases b.width <;> decide

section
variable (s : State)

theorem State.csrSTATUS_lasterr : s.csrSTATUS.extractLsb' 0 4 = s.LASTERR := BitVec.extractLsb'_append_eq_right

/-- Above `LASTERR` stand the six flags, and nothing above those. -/
theorem State.csrSTATUS_getLsbD_above (n : Nat) : s.csrSTATUS.getLsbD (4 + n) =
    [s.ERR, s.SEEDED, s.KTRUNC, s.LDBAD, s.LDOVF, isW4 s.build].getD n false := by
  rw [State.csrSTATUS, BitVec.getLsbD_append, if_neg (by omega), Nat.add_sub_cancel_left]
  simp only [getLsbD_append_flag]
  match n with
  | 0 | 1 | 2 | 3 | 4 | 5 => rfl
  | n + 6 => simp

theorem State.csrSTATUS_reserved : s.csrSTATUS.extractLsb' 10 22 = 0#22 := by
  refine BitVec.eq_of_getLsbD_eq fun k _ => ?_
  rw [BitVec.getLsbD_extractLsb', BitVec.getLsbD_zero, show 10 + k = 4 + (k + 6) by omega, s.csrSTATUS_getLsbD_above,
    List.getD_eq_default _ _ (Nat.le_add_left 6 k), Bool.and_false]

end

/-! ### KLEN and CNT within their bits -/

theorem Build.KMAX_lt (b : Build) : b.KMAX < 2 ^ (b.W + 1) := by
  rw [Build.KMAX, Build.N_eq_two_pow b]
  exact Nat.pow_lt_pow_succ Nat.one_lt_two

theorem Build.IMG_LEN_lt (b : Build) : b.IMG_LEN < 2 ^ (b.W + 2) := by
  have hN := Build.two_le_N b
  rw [Nat.pow_add, ← Build.N_eq_two_pow b, Build.IMG_LEN]
  omega

theorem State.csrKLEN_of_le {s : State} (h : s.KLEN ≤ s.build.KMAX) : s.csrKLEN = BitVec.ofNat 32 s.KLEN := by
  rw [State.csrKLEN, Nat.mod_eq_of_lt (h.trans_lt (Build.KMAX_lt _))]

theorem State.csrCNT_of_le {s : State} (h : s.CNT ≤ s.build.IMG_LEN) : s.csrCNT = BitVec.ofNat 32 s.CNT := by
  rw [State.csrCNT, Nat.mod_eq_of_lt (h.trans_lt (Build.IMG_LEN_lt _))]

/-! ### RDCSR -/

theorem exec_rdcsr_id (s : State) : exec (.rdcsr 0#12) s = .next (s.answered .ok (csrID s.build)) :=
  exec_rdcsr_valid 0#12 s (by decide)

theorem exec_rdcsr_status (s : State) : exec (.rdcsr 1#12) s = .next (s.answered .ok s.csrSTATUS) :=
  exec_rdcsr_valid 1#12 s (by decide)

theorem exec_rdcsr_klen (s : State) : exec (.rdcsr 2#12) s = .next (s.answered .ok s.csrKLEN) :=
  exec_rdcsr_valid 2#12 s (by decide)

theorem exec_rdcsr_cnt (s : State) : exec (.rdcsr 3#12) s = .next (s.answered .ok s.csrCNT) :=
  exec_rdcsr_valid 3#12 s (by decide)

/-- Settles O22, register by register: `ID` and `STATUS` are built of their fields, and `KLEN` and `CNT` in range fit the bits
that show them. -/
theorem rdcsrReadsRegisters : Obligations.RdcsrReadsRegisters := by
  refine ⟨encodeWith_eq_or 0xD#4, fun n s hn => exec_rdcsr_invalid n s hn.not_ge, fun s => ?_, fun s => ?_, fun s hk => ?_,
    fun s hc => ?_, fun s => ?_⟩
  · rw [exec_rdcsr_id, csrID_eq]
  · have hbit := s.csrSTATUS_getLsbD_above
    exact ⟨_, exec_rdcsr_status s, s.csrSTATUS_lasterr, hbit 0, hbit 1, hbit 2, hbit 3, hbit 4,
      (Bool.eq_iff_iff.mp (hbit 5)).trans (isW4_iff s.build), s.csrSTATUS_reserved⟩
  · rw [exec_rdcsr_klen, State.csrKLEN_of_le hk]
  · rw [exec_rdcsr_cnt, State.csrCNT_of_le hc]
  · exact ⟨_, _, Nat.mod_lt _ (Nat.two_pow_pos _), Nat.mod_lt _ (Nat.two_pow_pos _), exec_rdcsr_klen s, exec_rdcsr_cnt s⟩

end Sys2Proof.Machine
end

section
/-!
PROOFS. A command in flight (45_sequencer_fsm.md R251, R282): runs of micro-steps each taken with a command in flight, what it is
for such a run to complete a command's one transition, and the edges at which a command or a response waits (R280).
-/

namespace Sys2Proof.Machine

variable {s t u : State} {i : Instr} {m n : Nat}

/-! ### One micro-step -/

/-- A command is in flight, in a phase of its own, and no response waits. -/
structure Busy (s : State) : Prop where
  served : s.phaseServed = true
  rv : s.RV = false

theorem Busy.of_inFlight (hf : s.inFlight = some i) (hp : s.PH.serves i = true) (hr : s.RV = false) : Busy s :=
  ⟨(State.phaseServed_of_inFlight hf).trans hp, hr⟩

theorem State.phaseServed_idle (h : s.PH = .idle) : s.phaseServed = false := by
  cases hf : s.inFlight with
  | none => simp [State.phaseServed, hf]
  | some i => rw [State.phaseServed_of_inFlight hf, h]; rfl

theorem Busy.not_idle (h : Busy s) : s.PH ≠ .idle := fun hp => by
  simpa [State.phaseServed_idle hp] using h.served

theorem microStep_of_busy (h : Busy s) (ent : Option Byte) : microStep ent s = .next (s.microNext ent) := by
  simp [microStep, h.not_idle, h.served]

/-- Only phase `ENT` looks at the entropy port. -/
theorem microStep_congr_entropy (hp : s.PH ≠ .ent) (a b : Option Byte) : microStep a s = microStep b s := by
  have hnext : s.microNext a = s.microNext b := by
    unfold State.microNext
    cases he : s.PH with
    | ent => exact absurd he hp
    | _ => rfl
  simp [microStep, hnext]

theorem advance_of_not_ent (hp : s.PH ≠ .ent) : advance s = microStep none s := if_neg hp

theorem advance_of_ent (hp : s.PH = .ent) : advance s = microStep (some s.drawByte.1) s.drawByte.2 := if_pos hp

/-! ### Runs of micro-steps -/

/-- `n` micro-steps lead from `s` to `t`, each of them taken with a command in flight. -/
inductive BusyRun : Nat → State → State → Prop where
  | refl (s : State) : BusyRun 0 s s
  | step {n : Nat} {s u t : State} (busy : Busy s) (micro : advance s = .next u) (rest : BusyRun n u t) : BusyRun (n + 1) s t

namespace BusyRun

theorem advanceMany_eq (h : BusyRun n s t) : advanceMany n s = .next t := by
  induction h with
  | refl => rfl
  | step _ ha _ ih => simpa only [advanceMany, ha] using ih

/-- Every state before the last is one with the command in flight. -/
theorem busy_before {v : State} (h : BusyRun n s t) (hm : m < n) (hv : advanceMany m s = .next v) : Busy v := by
  induction h generalizing m with
  | refl => exact absurd hm (Nat.not_lt_zero m)
  | step hb ha _ ih =>
    cases m with
    | zero => cases hv; exact hb
    | succ m => exact ih (Nat.lt_of_succ_lt_succ hm) (by simpa only [advanceMany, ha] using hv)

theorem trans (h : BusyRun m s u) (h' : BusyRun n u t) : BusyRun (m + n) s t := by
  induction h with
  | refl => simpa using h'
  | step hb ha _ ih => rw [Nat.add_right_comm]; exact .step hb ha (ih h')

/-- A micro-step outside `ENT`. -/
theorem micro (hb : Busy s) (hp : s.PH ≠ .ent) (ht : s.microNext none = t) : BusyRun 1 s t :=
  .step hb ((advance_of_not_ent hp).trans ((microStep_of_busy hb none).trans (congrArg _ ht))) (.refl t)

/-- A loop: `n` micro-steps through the states `f 0`, `f 1`, …, and one that leaves it. -/
theorem loop {f : Nat → State} (each : ∀ k, k < n → BusyRun 1 (f k) (f (k + 1))) (last : BusyRun 1 (f n) t) :
    BusyRun (n + 1) (f 0) t := by
  induction n generalizing t with
  | zero => exact last
  | succ n ih => exact (ih (fun k hk => each k (by omega)) (each n (by omega))).trans last

end BusyRun

/-! ### Completing a command -/

/-- Within `n` micro-steps the command in flight in `s` ends in `u`, the sequencer's temporaries aside. -/
def Completes (n : Nat) (s u : State) : Prop :=
  ∃ k, k ≤ n ∧ ∃ t, BusyRun k s t ∧ t.forgetTemporaries = u.forgetTemporaries

/-- The micro-steps of a command from its decode on complete the command's one transition, within the counts of
70_reset_and_hazards.md R337. -/
def Refined (i : Instr) (s : State) : Prop :=
  ∃ s0 u, startCommand i s = .next s0 ∧ exec i s = .next u ∧ Completes (microBound s.build i) s0 u

theorem BusyRun.completes (h : BusyRun n s t) (hu : t.forgetTemporaries = u.forgetTemporaries) (hn : n ≤ m) :
    Completes m s u :=
  ⟨n, hn, t, h, hu⟩

theorem BusyRun.then_completes (h : BusyRun m s t) (hc : Completes n t u) : Completes (m + n) s u := by
  obtain ⟨k, hk, v, hv, hu⟩ := hc
  exact ⟨m + k, by omega, v, h.trans hv, hu⟩

theorem Completes.congr {v : State} (h : Completes n s u) (hv : u.forgetTemporaries = v.forgetTemporaries) :
    Completes n s v := by
  obtain ⟨k, hk, t, ht, hu⟩ := h
  exact ⟨k, hk, t, ht, hu.trans hv⟩

/-- A command that finishes at its decode (45_sequencer_fsm.md R253). -/
theorem Refined.at_decode (h : startCommand i s = exec i s) : Refined i s := by
  obtain ⟨u, hu, -⟩ := exec_answers i s
  exact ⟨u, u, h.trans hu, hu, (BusyRun.refl u).completes rfl (Nat.zero_le _)⟩

theorem startWord_of_decode {w : CmdWord} (hd : decode w = .ok i) (s : State) :
    startWord w s = startCommand i { s with OPC := w } := by
  simp [startWord, hd]

theorem startWord_of_illegal {w : CmdWord} {e : Illegal} (hd : decode w = .error e) (s : State) :
    startWord w s = .next (State.errored { s with OPC := w } .eIllegal 0#32) := by
  simp only [startWord, hd, rejectWord]
  exact raise_eq _ _ _ (by decide)

/-! ### At the pins -/

variable {p : Pins}

theorem clockEdge_of_busy (hrst : p.rst = false) (hp : s.PH ≠ .idle) (hr : s.RV = false) :
    clockEdge p s = microStep p.entropy s := by
  rw [clockEdge_in_flight hrst hp, State.responseEdge_of_not_waiting hr]

/-- In `ENT` a transfer of the byte the source was to deliver next is the draw of that byte. -/
theorem clockEdge_of_entropy {rest : List Byte} (hrst : p.rst = false) (hp : s.PH = .ent) (hr : s.RV = false)
    (hv : p.entValid = true) (he : s.entIn = p.entData :: rest) : clockEdge p { s with entIn := rest } = advance s := by
  have hdraw : s.drawByte = (p.entData, { s with entIn := rest }) := by simp [State.drawByte, he]
  have hidle : s.PH ≠ .idle := by simp [hp]
  calc clockEdge p { s with entIn := rest }
    _ = microStep p.entropy { s with entIn := rest } := clockEdge_of_busy hrst hidle hr
    _ = advance s := by rw [advance_of_ent hp, hdraw, Pins.entropy, if_pos hv]

/-- Settles O51: with a response waiting an edge is the response port's, which takes it or leaves the state alone. -/
theorem responseHeldUntilTaken : Obligations.ResponseHeldUntilTaken := by
  refine ⟨fun p s hrst hp hr hready => ⟨?_, ?_, ?_⟩, fun p s hrst hp hr hready => ?_⟩
  · simp [clockEdge_of_waiting hrst hp hr, State.responseEdge, hready]
  · simpa [State.outputs] using hr
  · simp [State.outputs, hr]
  · simp [clockEdge_of_waiting hrst hp hr, State.responseEdge, hr, hready, State.takeResponse]

end Sys2Proof.Machine
end

section
/-!
PROOFS. The phases of SEED and ASEED (45_sequencer_fsm.md R260 to R263). `KFILL` overwrites the whole table, so it starts `KMIX`
from the identity whatever the table held; `KMIX` is the loop of `KSA` over the first `mixLength` bytes of the key buffer; `ENT`
leaves there the bytes that `drawBytes` draws.
-/

namespace Sys2Proof.Machine

variable {s : State} {i : Instr}

/-! ### The key bytes -/

/-- The first `n` bytes of a key buffer. -/
def keyBytes (b : Build) (K : Memory) (n : Nat) : List Byte := (List.range n).map fun a => elem b .K K a

theorem State.key_eq (s : State) : s.key = keyBytes s.build s.K s.KLEN := rfl

theorem keyBytes_put (b : Build) (K : Memory) (n : Nat) (v : Byte) :
    keyBytes b (put b .K K n v) (n + 1) = keyBytes b K n ++ [v] := by
  have hbelow : keyBytes b (put b .K K n v) n = keyBytes b K n :=
    List.map_congr_left fun a ha => elem_put_other (List.mem_range.mp ha).ne
  simpa [keyBytes, List.range_succ, narrow] using hbelow

/-- The byte the mixing loop reads is the key's byte of R127. -/
theorem keyAt_keyBytes (b : Build) (K : Memory) {n : Nat} (hn : 0 < n) (c : Nat) :
    keyAt (keyBytes b K n) c = elem b .K K (c % n) := by
  simp [keyAt, keyBytes, Nat.mod_lt c hn]

/-! ### `KFILL` -/

/-- `KFILL` before its micro-step `k`. -/
def State.kfillAt (s : State) (k : Nat) : State :=
  { s with S := fill s.build .S s.S k fun a => BitVec.ofNat 8 a, C := k, PH := .kfill }

theorem State.kfillAt_succ (s : State) (k : Nat) :
    s.kfillAt (k + 1) = { s.kfillAt k with S := put s.build .S (s.kfillAt k).S k (BitVec.ofNat 8 k), C := k + 1 } := by
  rw [State.kfillAt, fill_succ]
  rfl

/-- `KMIX` before an iteration with counter `c`, accumulator `j` and table `T`. -/
def State.kmixAt (s : State) (c : Nat) (j : Sym) (T : Memory) : State := { s with S := T, C := c, JA := j, PH := .kmix }

/-- `KDONE` with accumulator `j` and table `T`. -/
def State.kdoneAt (s : State) (j : Sym) (T : Memory) : State :=
  { s with S := T, C := s.build.N - 2, JA := j, PH := .kdone }

/-- Filled to its whole length with the identity a table holds nothing of what it held. -/
theorem fill_eq_identityTable {b : Build} {m : Memory} (h : MemoryOk b .S m) :
    fill b .S m b.N (fun a => BitVec.ofNat 8 a) = identityTable b := by
  refine Memory.ext_of_wf (h.fill le_rfl _).1 (memoryOk_identityTable b).1 fun c => ?_
  rw [identityTable, read_fill, read_fill]
  split
  next => rfl
  next hc =>
    cases hm : m.read c with
    | none => rfl
    | some v => exact absurd (h.2 _ (Memory.mem_of_read hm)).1 hc

section
variable (hf : s.inFlight = some i) (hi : Phase.serves .kfill i = true) (hr : s.RV = false)
include hf hi hr

theorem busyRun_kfill (hS : MemoryOk s.build .S s.S) :
    BusyRun s.build.N (s.kfillAt 0) (s.kmixAt 0 0#8 (identityTable s.build)) := by
  have hbusy (k : Nat) : Busy (s.kfillAt k) := .of_inFlight hf hi hr
  obtain ⟨n, hn⟩ := Nat.exists_eq_add_one.mpr (Build.N_pos s.build)
  rw [← fill_eq_identityTable hS, hn, fill_succ]
  refine .loop (fun k hk => .micro (hbusy k) nofun ?_) (.micro (hbusy n) nofun ?_)
  · rw [State.kfillAt_succ]
    exact if_neg (show ¬ k = s.build.N - 1 by omega)
  · exact if_pos (show n = s.build.N - 1 by omega)

/-! ### `KMIX` and `KDONE` -/

/-- The last `n + 1` iterations of the key-schedule loop. -/
theorem busyRun_kmix (hL : 0 < s.mixLength) (n : Nat) : ∀ (c : Nat) (j : Sym) (T : Memory), c + n = s.build.N - 2 →
    ∃ j', BusyRun (n + 1) (s.kmixAt c j T)
      (s.kdoneAt j' (mix s.build (keyBytes s.build s.K s.mixLength) (n + 1) c j T)) := by
  have hJA (c : Nat) (j : Sym) (T : Memory) : (s.kmixAt c j T).mixJA =
      mixAcc s.build T c j (keyAt (keyBytes s.build s.K s.mixLength) c) :=
    congrArg (mixAcc s.build T c j) (keyAt_keyBytes s.build s.K hL c).symm
  have hbusy (c : Nat) (j : Sym) (T : Memory) : Busy (s.kmixAt c j T) := .of_inFlight hf hi hr
  induction n with
  | zero =>
    intro c j T hc
    refine ⟨(s.kmixAt c j T).mixJA, .micro (hbusy c j T) nofun ?_⟩
    rw [mix, mix, ← hJA, State.kdoneAt, ← hc]
    exact if_pos hc
  | succ n ih =>
    intro c j T hc
    obtain ⟨j', hrun⟩ := ih (c + 1) (mixAcc s.build T c j (keyAt (keyBytes s.build s.K s.mixLength) c))
      (swap s.build .S T c (mixAcc s.build T c j (keyAt (keyBytes s.build s.K s.mixLength) c)).toNat) (by omega)
    refine ⟨j', BusyRun.step (hbusy c j T) ?_ hrun⟩
    have hp : (s.kmixAt c j T).PH ≠ .ent := nofun
    rw [advance_of_not_ent hp, microStep_of_busy (hbusy c j T), ← hJA]
    exact congrArg _ (if_neg (show ¬ c = s.build.N - 2 by omega))

theorem busyRun_kdone (j : Sym) (T : Memory) :
    BusyRun 1 (s.kdoneAt j T) (State.finish (s.kdoneAt j T).finishSeed .ok 0#32) :=
  .micro (.of_inFlight hf hi hr) nofun rfl

/-- From the first micro-step of `KFILL` on, a seeding over the first `mixLength` bytes of the key buffer. -/
theorem completes_seeding (hS : MemoryOk s.build .S s.S) (hL : 0 < s.mixLength) :
    Completes (2 * s.build.N) (s.kfillAt 0) ((s.seedWith (keyBytes s.build s.K s.mixLength)).answered .ok 0#32) := by
  have hN := Build.two_le_N s.build
  obtain ⟨j', hmix⟩ := busyRun_kmix hf hi hr hL (s.build.N - 2) 0 0#8 (identityTable s.build) (by omega)
  refine (((busyRun_kfill hf hi hr hS).trans hmix).trans (busyRun_kdone hf hi hr j' _)).completes ?_ (by omega)
  rw [State.seedWith, ksa, show s.build.N - 1 = s.build.N - 2 + 1 by omega]
  rfl

end

/-! ### SEED -/

theorem refined_seed (h : Inv s) (hf : s.inFlight = some .seed) (hr : s.RV = false) : Refined .seed s := by
  by_cases hk : s.KLEN = 0
  · exact .at_decode ((if_pos hk).trans (if_pos hk).symm)
  · have hlen : s.mixLength = s.KLEN := by simp [State.mixLength, hf]
    refine ⟨s.kfillAt 0, _, if_neg hk, exec_seed_key s hk, ?_⟩
    rw [State.key_eq, ← hlen]
    exact completes_seeding hf rfl hr h.s_ok (by omega)

/-! ### ASEED -/

theorem State.drawByte_eq (s : State) :
    s.drawByte.2 = { s with entIn := s.drawByte.2.entIn, draws := s.drawByte.2.draws } := by
  rw [(drawByte_spec s).1]

/-- `ENT` with `e` bytes taken, the key buffer `K` and what is left of the source. -/
def State.entAt (s : State) (e : Nat) (K : Memory) : State := { s with K := K, ECNT := e, PH := .ent }

theorem State.drawByte_entAt (s : State) (e : Nat) (K : Memory) :
    (s.entAt e K).drawByte = (s.drawByte.1, s.drawByte.2.entAt e K) := by
  cases he : s.entIn with
  | nil => simp [State.drawByte, State.entAt, he]
  | cons v rest => simp [State.drawByte, State.entAt, he]

/-- The micro-step of `ENT`, the source delivering. -/
theorem advance_entAt (hf : s.inFlight = some .aseed) (hr : s.RV = false) (e : Nat) (K : Memory) :
    advance (s.entAt e K) = .next
      (if e = s.build.entLen - 1 then (s.drawByte.2.entAt e (put s.build .K K e s.drawByte.1)).kfillAt 0
       else s.drawByte.2.entAt (e + 1) (put s.build .K K e s.drawByte.1)) := by
  have hbusy : Busy (s.drawByte.2.entAt e K) := by
    rw [State.drawByte_eq]
    exact .of_inFlight hf rfl hr
  rw [advance_of_ent rfl, State.drawByte_entAt, microStep_of_busy hbusy, ← drawByte_build s]
  rfl

/-- The last `n + 1` micro-steps of `ENT` append the bytes drawn to those already taken. -/
theorem busyRun_ent (n : Nat) : ∀ (s : State) (e : Nat) (K : Memory), s.inFlight = some .aseed → s.RV = false →
    e + (n + 1) = s.build.entLen → ∃ K',
      keyBytes s.build K' s.build.entLen = keyBytes s.build K e ++ (State.drawBytes (n + 1) s).1 ∧
      BusyRun (n + 1) (s.entAt e K) (((State.drawBytes (n + 1) s).2.entAt (s.build.entLen - 1) K').kfillAt 0) := by
  induction n with
  | zero =>
    intro s e K hf hr he
    have hlast : e = s.build.entLen - 1 := by omega
    refine ⟨put s.build .K K e s.drawByte.1, he ▸ keyBytes_put s.build K e s.drawByte.1,
      .step (.of_inFlight hf rfl hr) ((advance_entAt hf hr e K).trans (congrArg _ (if_pos hlast))) ?_⟩
    rw [← hlast]
    exact .refl _
  | succ n ih =>
    intro s e K hf hr he
    have hd := s.drawByte_eq
    obtain ⟨K', hkey, hrun⟩ := ih s.drawByte.2 (e + 1) (put s.build .K K e s.drawByte.1) (by rw [hd]; exact hf)
      (by rw [hd]; exact hr) (by rw [drawByte_build]; omega)
    rw [drawByte_build] at hkey hrun
    rw [keyBytes_put, List.append_assoc] at hkey
    have hmore : ¬ e = s.build.entLen - 1 := by omega
    exact ⟨K', hkey,
      .step (.of_inFlight hf rfl hr) ((advance_entAt hf hr e K).trans (congrArg _ (if_neg hmore))) hrun⟩

theorem Build.entLen_pos {b : Build} (h : b.wellFormed = true) : 0 < b.entLen := by
  simp only [Build.wellFormed, Bool.and_eq_true, decide_eq_true_eq] at h
  exact h.1

/-- The seeding of an ASEED, once its bytes are in the key buffer. -/
theorem completes_aseed_seeding (hf : s.inFlight = some .aseed) (hr : s.RV = false) (hS : MemoryOk s.build .S s.S)
    (hlen : 0 < s.build.entLen) (e : Nat) (K : Memory) :
    Completes (2 * s.build.N) ((s.entAt e K).kfillAt 0)
      ((s.seedWith (keyBytes s.build K s.build.entLen)).answered .ok 0#32) := by
  have hL : (s.entAt e K).mixLength = s.build.entLen := if_pos hf
  have hseed := completes_seeding (s := s.entAt e K) hf rfl hr hS (hL ▸ hlen)
  rw [hL] at hseed
  exact hseed.congr rfl

theorem refined_aseed (h : Inv s) (hf : s.inFlight = some .aseed) (hr : s.RV = false) : Refined .aseed s := by
  have hlen : 0 < s.build.entLen := Build.entLen_pos h.build_ok
  have hlast : s.build.entLen - 1 + 1 = s.build.entLen := Nat.sub_add_cancel hlen
  obtain ⟨K', hkey, hent⟩ := busyRun_ent (s.build.entLen - 1) s.clearKey 0 s.K hf hr ((Nat.zero_add _).trans hlast)
  rw [hlast] at hkey hent
  obtain ⟨-, hdrawn, -⟩ := drawBytes_spec s.build.entLen s.clearKey
  have hseed := completes_aseed_seeding (s := (State.drawBytes s.build.entLen s.clearKey).2) (by rw [hdrawn]; exact hf)
    (by rw [hdrawn]; exact hr) (by rw [hdrawn]; exact h.s_ok) (by simpa using hlen) (s.build.entLen - 1) K'
  rw [drawBytes_build, State.clearKey_build, ← s.clearKey_build, hkey] at hseed
  exact ⟨s.clearKey.entAt 0 s.K, _, rfl, exec_aseed s, hent.then_completes hseed⟩

end Sys2Proof.Machine
end

section
/-!
PROOFS. The phases of NEXT and WORD (45_sequencer_fsm.md R265, R266) and of SNAP (R270). `ST1` to `ST3` are one `STEP` of the live
state, and `ST4` reads its output; `SNAPC` is the copy of the image, symbol by symbol.
-/

namespace Sys2Proof.Machine

variable {s : State} {i : Instr}

/-! ### `ST1` to `ST4` -/

/-- `ST4` of a step whose table, cursors and symbols are those of `STEP` (41_step.md R151). -/
def State.st4At (s : State) : State :=
  { s.setLive (stepLive s.build s.live) with
    TA := elem s.build .S s.S (nextI s.build s.live).toNat
    TB := elem s.build .S s.S (nextJ s.build s.live).toNat
    PH := .st4 }

/-- `ST4` adds the two symbols as `ST1` and `ST2` read them, `STEP` as they stand after the exchange. -/
theorem State.st4Out_st4At (s : State) : s.st4At.st4Out = stepOut s.build s.live := by
  rw [stepOut, elem_nextS_nextI, elem_nextS_nextJ, Nat.add_comm]
  rfl

section
variable (hf : s.inFlight = some i) (hi : Phase.serves .st1 i = true) (hr : s.RV = false)
include hf hi hr

theorem busy_st4At : Busy s.st4At := .of_inFlight hf hi hr

theorem busyRun_step : BusyRun 3 (s.enter .st1) s.st4At := by
  have hst1 : BusyRun 1 (s.enter .st1) (s.enter .st1).microSt1 := .micro (.of_inFlight hf hi hr) nofun rfl
  have hst2 : BusyRun 1 (s.enter .st1).microSt1 (s.enter .st1).microSt1.microSt2 := .micro (.of_inFlight hf hi hr) nofun rfl
  have hst3 : BusyRun 1 (s.enter .st1).microSt1.microSt2 s.st4At := .micro (.of_inFlight hf hi hr) nofun rfl
  exact (hst1.trans hst2).trans hst3

end

/-! ### NEXT and WORD -/

theorem refined_next (hf : s.inFlight = some .next) (hr : s.RV = false) : Refined .next s := by
  cases hs : s.SEEDED with
  | false => exact .at_decode (by simp [startCommand, exec, execNext, hs])
  | true =>
    have hanswer : BusyRun 1 s.st4At (State.finish { s.st4At with OUT := s.st4At.st4Out } .ok (zext32 s.st4At.st4Out)) :=
      .micro (busy_st4At hf rfl hr) nofun (if_pos hf)
    rw [State.st4Out_st4At] at hanswer
    have hrun := (busyRun_step hf rfl hr).trans hanswer
    exact ⟨s.enter .st1, _, if_pos hs, exec_next_seeded s hs, hrun.completes rfl le_rfl⟩

/-- `WORD` at the start of a step, `e` accumulated of `k` symbols. -/
def State.wordAt (s : State) (k : Nat) (e : Data) : State := { s with WACC := e, WK := k, PH := .st1 }

/-- `wordAt k e` one step and one symbol on. -/
def State.wordAfter (s : State) (k : Nat) (e : Data) : State :=
  State.wordAt { s.st4At with OUT := stepOut s.build s.live } (k + 1) (accumulate s.build e (stepOut s.build s.live))

theorem busyRun_word_step (hf : s.inFlight = some .word) (hr : s.RV = false) (k : Nat) (e : Data) :
    BusyRun 4 (s.wordAt k e)
      (if k + 1 = s.build.WORD_STEPS then
        (s.wordAfter k e).finish .ok (accumulate s.build e (stepOut s.build s.live))
       else s.wordAfter k e) := by
  have hsteps : BusyRun 3 (s.wordAt k e) (s.wordAt k e).st4At := busyRun_step (s := s.wordAt k e) hf rfl hr
  refine hsteps.trans (.micro (busy_st4At (s := s.wordAt k e) hf rfl hr) nofun ?_)
  have hword : ¬ (s.wordAt k e).st4At.inFlight = some .next := fun hnext => nomatch hf.symm.trans hnext
  rw [State.wordAfter, ← State.st4Out_st4At]
  exact if_neg hword

/-- The last `n + 1` steps of a WORD. -/
theorem completes_word (n : Nat) : ∀ (s : State) (k : Nat) (e : Data), s.inFlight = some .word → s.RV = false →
    k + (n + 1) = s.build.WORD_STEPS → Completes (4 * (n + 1)) (s.wordAt k e)
      ((s.setLive (stepMany s.build (n + 1) s.live e).1).answered .ok (stepMany s.build (n + 1) s.live e).2) := by
  induction n with
  | zero =>
    intro s k e hf hr hk
    have hstep := busyRun_word_step hf hr k e
    rw [if_pos hk] at hstep
    exact hstep.completes rfl le_rfl
  | succ n ih =>
    intro s k e hf hr hk
    have hstep := busyRun_word_step hf hr k e
    rw [if_neg (by omega)] at hstep
    have hk' : k + 1 + (n + 1) = s.build.WORD_STEPS := by omega
    have hrest := ih { s.st4At with OUT := stepOut s.build s.live } (k + 1)
      (accumulate s.build e (stepOut s.build s.live)) hf hr hk'
    rw [Nat.mul_succ, Nat.add_comm]
    exact (hstep.then_completes hrest).congr rfl

theorem Build.WORD_STEPS_pos (b : Build) : 0 < b.WORD_STEPS := by
  unfold Build.WORD_STEPS Build.W; cases b.width <;> decide

theorem refined_word (hf : s.inFlight = some .word) (hr : s.RV = false) : Refined .word s := by
  cases hs : s.SEEDED with
  | false => exact .at_decode (by simp [startCommand, exec, execWord, hs])
  | true =>
    have hsteps := Build.WORD_STEPS_pos s.build
    have hrun := completes_word (s.build.WORD_STEPS - 1) s 0 0#32 hf hr (by omega)
    rw [Nat.sub_add_cancel hsteps] at hrun
    exact ⟨s.wordAt 0 0#32, _, if_pos hs, exec_word_seeded s hs, hrun⟩

/-! ### SNAP -/

/-- `SNAPC` before its micro-step `k`. -/
def State.snapcAt (s : State) (k : Nat) : State :=
  { s with SH := fill s.build .SH s.SH k s.imageAt, C := k, PH := .snapc }

theorem State.snapcAt_succ (s : State) (k : Nat) :
    s.snapcAt (k + 1) = { s.snapcAt k with SH := put s.build .SH (s.snapcAt k).SH k (s.imageAt k), C := k + 1 } := by
  rw [State.snapcAt, fill_succ]
  rfl

theorem refined_snap (hf : s.inFlight = some .snap) (hr : s.RV = false) : Refined .snap s := by
  cases hs : s.SEEDED with
  | false => exact .at_decode (by simp [startCommand, exec, execSnap, hs])
  | true =>
    have hbusy (k : Nat) : Busy (s.snapcAt k) := .of_inFlight hf rfl hr
    have hrun : BusyRun (s.build.N + 1 + 1) (s.snapcAt 0)
        (State.finish { s.captureImage with C := s.build.N + 1, PH := .snapc } .ok 0#32) := by
      refine .loop (fun k hk => .micro (hbusy k) nofun ?_) (.micro (hbusy _) nofun ?_)
      · rw [State.snapcAt_succ]
        exact if_neg (show ¬ k = s.build.N + 1 by omega)
      · rw [State.captureImage, Build.IMG_LEN, fill_succ]
        exact if_pos rfl
    exact ⟨s.snapcAt 0, _, if_pos hs, exec_snap_seeded s hs, hrun.completes rfl le_rfl⟩

end Sys2Proof.Machine
end

section
/-!
PROOFS. The phases of RSTR (45_sequencer_fsm.md R272 to R274): the flag checks of `VCHK`, the bitmap of `VPERM`, which meets a
symbol a second time just where the image holds no permutation, and the copy of `RCOPY`. Then the refinement of R282 for every
command.
-/

namespace Sys2Proof.Machine

variable {s : State}

/-! ### The bitmap of `VPERM` -/

/-- The symbols `VPERM` has seen before its micro-step `k`. -/
def State.seenBefore (s : State) : Nat → BitVec 256
  | 0 => 0#256
  | k + 1 => s.seenBefore k ||| BitVec.twoPow 256 (elem s.build .SH s.SH (2 + k)).toNat

/-- The symbol `VPERM` reads in its micro-step `k` is one it has seen. -/
def State.seenAgain (s : State) (k : Nat) : Prop :=
  (s.seenBefore k).getLsbD (elem s.build .SH s.SH (2 + k)).toNat = true

/-- `VPERM` before its micro-step `k`. -/
def State.vpermAt (s : State) (k : Nat) : State := { s with SEEN := s.seenBefore k, C := k, PH := .vperm }

/-- The bitmap holds the symbols already read. -/
theorem State.getLsbD_seenBefore (s : State) (k : Nat) (v : Sym) :
    (s.seenBefore k).getLsbD v.toNat = true ↔ ∃ c, c < k ∧ elem s.build .SH s.SH (2 + c) = v := by
  induction k with
  | zero => simp [State.seenBefore]
  | succ k ih =>
    have hbit : (BitVec.twoPow 256 (elem s.build .SH s.SH (2 + k)).toNat).getLsbD v.toNat = true ↔
        elem s.build .SH s.SH (2 + k) = v := by
      simp [v.isLt, BitVec.toNat_inj, eq_comm]
    rw [State.seenBefore, BitVec.getLsbD_or, Bool.or_eq_true, ih, hbit, Nat.exists_lt_succ_right]

/-- In a permutation no symbol is met a second time, and an image in which none is holds one. -/
theorem State.shadowIsPermutation_iff_unseen (s : State) :
    s.shadowIsPermutation = true ↔ ∀ k, k < s.build.N → ¬ s.seenAgain k := by
  rw [s.shadowIsPermutation_iff]
  constructor
  · intro h k hk hseen
    obtain ⟨c, hc, heq⟩ := (s.getLsbD_seenBefore k _).mp hseen
    have hck : c = k := h.injOn (fun _ _ => elem_SH_lt _ _ _) (hc.trans hk) hk (congrArg BitVec.toNat heq)
    exact hc.ne hck
  · intro h
    have hne (a c : Nat) (hac : a < c) (hc : c < s.build.N) : s.shadowAt (2 + a) ≠ s.shadowAt (2 + c) := fun heq =>
      h c hc ((s.getLsbD_seenBefore c _).mpr ⟨a, hac, BitVec.eq_of_toNat_eq heq⟩)
    refine bijective_of_injOn (fun _ _ => elem_SH_lt _ _ _) fun a c ha hc heq => ?_
    obtain hlt | rfl | hlt := lt_trichotomy a c
    · exact absurd heq (hne a c hlt hc)
    · rfl
    · exact absurd heq.symm (hne c a hlt ha)

/-- Where there is no permutation, `VPERM` stops at the first symbol met a second time. -/
theorem State.exists_first_seenAgain (h : ¬ s.shadowIsPermutation = true) :
    ∃ k, k < s.build.N ∧ s.seenAgain k ∧ ∀ j, j < k → ¬ s.seenAgain j := by
  rw [s.shadowIsPermutation_iff_unseen] at h
  have hex : ∃ k, k < s.build.N ∧ s.seenAgain k := by simpa only [not_forall, not_not, exists_prop] using h
  classical
  obtain ⟨hk, hseen⟩ := Nat.find_spec hex
  exact ⟨Nat.find hex, hk, hseen, fun j hj hj' => Nat.find_min hex hj ⟨hj.trans hk, hj'⟩⟩

/-! ### The copy of `RCOPY` -/

/-- A micro-step of `RCOPY` before the last. -/
theorem State.microRcopy_copy (h : s.C ≠ s.build.N + 1) : s.microRcopy = { s.rcopyWrite with C := s.C + 1 } := if_neg h

/-- `RCOPY` with both cursors and `k` table symbols copied. -/
def State.rcopyAt (s : State) (k : Nat) : State :=
  { s with
    I := elem s.build .SH s.SH 0
    J := elem s.build .SH s.SH 1
    S := fill s.build .S s.S k fun a => elem s.build .SH s.SH (a + 2)
    C := k + 2
    PH := .rcopy }

theorem State.rcopyAt_succ (s : State) (k : Nat) : s.rcopyAt (k + 1) =
    { s.rcopyAt k with S := put s.build .S (s.rcopyAt k).S k (elem s.build .SH s.SH (k + 2)), C := k + 3 } := by
  rw [State.rcopyAt, fill_succ]
  rfl

/-! ### RSTR -/

/-- A rejection by one of the flags is answered in `VCHK`. -/
theorem Refined.of_vchk (hf : s.inFlight = some .rstr) (hr : s.RV = false) {r : Data}
    (hv : (s.enter .vchk).microVchk = (s.enter .vchk).finish .eState r) (hx : s.restoreReason = some r) :
    Refined .rstr s := by
  have hrun : BusyRun 1 (s.enter .vchk) ((s.enter .vchk).finish .eState r) := .micro (.of_inFlight hf rfl hr) nofun hv
  exact ⟨s.enter .vchk, _, rfl, exec_rstr_invalid s r hx, hrun.completes rfl (Nat.le_add_left 1 _)⟩

section
variable (hf : s.inFlight = some .rstr) (hr : s.RV = false)
include hf hr

theorem busy_vpermAt (k : Nat) : Busy (s.vpermAt k) := .of_inFlight hf rfl hr

/-- A symbol seen for the first time, not the last one. -/
theorem busyRun_vperm_next {k : Nat} (hk : k < s.build.N - 1) (hu : ¬ s.seenAgain k) :
    BusyRun 1 (s.vpermAt k) (s.vpermAt (k + 1)) :=
  .micro (busy_vpermAt hf hr k) nofun ((if_neg hu).trans (if_neg hk.ne))

theorem busyRun_vperm_rejected {k : Nat} (hk : k < s.build.N) (hseen : s.seenAgain k)
    (hbefore : ∀ j, j < k → ¬ s.seenAgain j) :
    BusyRun (k + 1) (s.vpermAt 0) ((s.vpermAt k).finish .eState 4#32) :=
  .loop (fun j hj => busyRun_vperm_next hf hr (by omega) (hbefore j hj))
    (.micro (busy_vpermAt hf hr k) nofun (if_pos hseen))

theorem busyRun_vperm_accepted (hp : s.shadowIsPermutation = true) :
    BusyRun s.build.N (s.vpermAt 0) { s with SEEN := s.seenBefore s.build.N, C := 0, PH := .rcopy } := by
  have hunseen := s.shadowIsPermutation_iff_unseen.mp hp
  obtain ⟨n, hn⟩ := Nat.exists_eq_add_one.mpr (Build.N_pos s.build)
  rw [hn]
  refine .loop (fun k hk => busyRun_vperm_next hf hr (by omega) (hunseen k (by omega)))
    (.micro (busy_vpermAt hf hr n) nofun ((if_neg (hunseen n (by omega))).trans (if_pos ?_)))
  exact (Nat.sub_eq_of_eq_add hn).symm

theorem busyRun_rcopy : BusyRun (2 + s.build.N) { s with C := 0, PH := .rcopy }
    (State.finish { s.installImage with C := s.build.N + 1, PH := .rcopy } .ok 0#32) := by
  have hbusy (k : Nat) : Busy (s.rcopyAt k) := .of_inFlight hf rfl hr
  have hN := Build.two_le_N s.build
  have hI : BusyRun 1 { s with C := 0, PH := .rcopy } { s with I := elem s.build .SH s.SH 0, C := 1, PH := .rcopy } :=
    .micro (.of_inFlight hf rfl hr) nofun (State.microRcopy_copy (show 0 ≠ s.build.N + 1 by omega))
  have hJ : BusyRun 1 { s with I := elem s.build .SH s.SH 0, C := 1, PH := .rcopy } (s.rcopyAt 0) :=
    .micro (.of_inFlight hf rfl hr) nofun (State.microRcopy_copy (show 1 ≠ s.build.N + 1 by omega))
  refine (hI.trans hJ).trans ?_
  obtain ⟨n, hn⟩ := Nat.exists_eq_add_one.mpr (Build.N_pos s.build)
  rw [State.installImage, hn, fill_succ]
  refine .loop (fun k hk => .micro (hbusy k) nofun ?_) (.micro (hbusy n) nofun ?_)
  · rw [State.rcopyAt_succ]
    exact State.microRcopy_copy (show k + 2 ≠ s.build.N + 1 by omega)
  · exact if_pos (show n + 2 = s.build.N + 1 by omega)

theorem refined_rstr : Refined .rstr s := by
  by_cases hovf : s.LDOVF = true
  · exact .of_vchk hf hr (if_pos hovf) (State.restoreReason_of_ldovf hovf)
  have hovf' : s.LDOVF = false := by simpa using hovf
  by_cases hc : s.CNT = s.build.IMG_LEN
  case neg => exact .of_vchk hf hr ((if_neg hovf).trans (if_pos hc)) (State.restoreReason_of_cnt hovf' hc)
  by_cases hbad : s.LDBAD = true
  · exact .of_vchk hf hr ((if_neg hovf).trans ((if_neg (not_not.mpr hc)).trans (if_pos hbad)))
      (State.restoreReason_of_ldbad hovf' hc hbad)
  have hbad' : s.LDBAD = false := by simpa using hbad
  have hchecked : BusyRun 1 (s.enter .vchk) (s.vpermAt 0) := .micro (.of_inFlight hf rfl hr) nofun
    ((if_neg hovf).trans ((if_neg (not_not.mpr hc)).trans (if_neg hbad)))
  by_cases hp : s.shadowIsPermutation = true
  · have hcopied := busyRun_rcopy (s := { s with SEEN := s.seenBefore s.build.N }) hf hr
    have hrun := (hchecked.trans (busyRun_vperm_accepted hf hr hp)).trans hcopied
    have hreason := State.restoreReason_of_valid hovf' hc hbad' hp
    exact ⟨s.enter .vchk, _, rfl, exec_rstr_valid s hreason, hrun.completes rfl (by dsimp only [microBound]; omega)⟩
  · obtain ⟨k, hk, hseen, hbefore⟩ := State.exists_first_seenAgain hp
    have hrun := hchecked.trans (busyRun_vperm_rejected hf hr hk hseen hbefore)
    have hreason := State.restoreReason_of_not_permutation hovf' hc hbad' hp
    exact ⟨s.enter .vchk, _, rfl, exec_rstr_invalid s _ hreason, hrun.completes rfl (by dsimp only [microBound]; omega)⟩

end

/-! ### The obligation -/

/-- Every command: those with phases of their own run through them, the others finish at their decode. -/
theorem refined_of_inv {i : Instr} (h : Inv s) (hf : s.inFlight = some i) (hr : s.RV = false) : Refined i s := by
  cases i with
  | seed => exact refined_seed h hf hr
  | aseed => exact refined_aseed h hf hr
  | next => exact refined_next hf hr
  | word => exact refined_word hf hr
  | snap => exact refined_snap hf hr
  | rstr => exact refined_rstr hf hr
  | nop | init | kclr | keyb _ | shrd _ | ldbeg | ldsym _ | rdcsr _ | clre => exact .at_decode rfl

/-- Settles O48: the first part is `refined_of_inv`, every state before the last of its run being busy; the rest is what an edge
does with a command in flight. -/
theorem sequencerRefinesCommands : Obligations.SequencerRefinesCommands := by
  refine ⟨fun s w i h hr hd => ?_, fun s _ _ hd => startWord_of_illegal hd s,
    fun _ _ hrst hp hr => clockEdge_of_busy hrst hp hr, fun p s hrst hp hent hr => ?_,
    fun _ _ _ hrst hp hr hv he => clockEdge_of_entropy hrst hp hr hv he⟩
  · have hf : State.inFlight { s with OPC := w } = some i := by simp [State.inFlight, hd]
    have hinv : Inv { s with OPC := w } := { h with }
    obtain ⟨s0, u, hstart, hexec, n, hn, t, hrun, hu⟩ := refined_of_inv hinv hf hr
    refine ⟨n, s0, t, u, hn, (startWord_of_decode hd s).trans hstart, hrun.advanceMany_eq, hexec, hu, fun m v hm hv => ?_⟩
    have hbusy : Busy v := hrun.busy_before hm hv
    exact ⟨by simp [State.outputs, hbusy.not_idle], by simp [State.outputs, hbusy.rv], hbusy.not_idle⟩
  · rw [clockEdge_of_busy hrst hp hr, advance_of_not_ent hent, microStep_congr_entropy hent]

end Sys2Proof.Machine
end

section
/-!
PROOFS. Key bytes at the reduced width (46_common_laws.md R286). The key schedule reads a key byte through its residue mod `N`
only, and that is what `mix_congr_key` asks to agree; at `W = 4`, `N` is 16.
-/

namespace Sys2Proof.Machine

/-- Which byte of a key the loop reads depends on the key's length alone, so it commutes with reducing every byte mod `n`. -/
theorem keyAt_toNat_mod (key : List Byte) (c n : Nat) :
    (keyAt key c).toNat % n =
      (key.map fun v => v.toNat % n).getD (c % (key.map fun v => v.toNat % n).length) 0 := by
  rw [List.length_map, keyAt, ← Nat.zero_mod n]
  exact (List.getD_map _ _ fun v : Byte => v.toNat % n).symm

/-- Two keys whose bytes agree mod `N` have the same key schedule, at either width. -/
theorem ksa_congr_mod {b : Build} {k1 k2 : List Byte}
    (h : (k1.map fun v => v.toNat % b.N) = k2.map fun v => v.toNat % b.N) : ksa b k1 = ksa b k2 :=
  mix_congr_key _ _ _ fun c _ _ => by rw [keyAt_toNat_mod, keyAt_toNat_mod, h]

/-- Settles O39: at `W = 4` the residues mod `N` are the low four bits. -/
theorem reducedWidthUsesLowNibbles : Obligations.ReducedWidthUsesLowNibbles := fun b k1 k2 hw h => by
  have hN : b.N = 16 := by rw [Build.N, hw]
  exact ksa_congr_mod (hN ▸ h)

end Sys2Proof.Machine
end

section
/-!
PROOFS. Errors (60_exceptions.md). Which command raises which code, for what cause and with what data (R291), is one relation,
`Raises`; every command raises an error by it or answers OK. A cause is neither removed by the error it raises (R297) nor looked
up in the error record, which gates nothing (R298).
-/

namespace Sys2Proof.Machine

/-! ### The causes -/

/-- The command `i` raises the code `c` with the data `d` on the state `s` (R291). -/
inductive Raises (s : State) : Instr → Code → Data → Prop where
  | seed (h : s.KLEN = 0) : Raises s .seed .eSeed 0#32
  | rstr {r : Data} (h : s.restoreReason = some r) : Raises s .rstr .eState r
  | unseeded {i : Instr} (hi : i = .next ∨ i = .word ∨ i = .snap) (h : s.SEEDED = false) : Raises s i .eUnseeded 0#32
  | shrd {a : BitVec 12} (h : s.shadowIndexValid a = false) : Raises s (.shrd a) .eIndex 0#32
  | rdcsr {n : BitVec 12} (h : ¬ n.toNat ≤ 3) : Raises s (.rdcsr n) .eIndex 0#32

/-- The error record (10_state.md R36). -/
def State.record (s : State) : Bool × BitVec 4 := (s.ERR, s.LASTERR)

/-- How the command `i` ends on `s`: in an error it raises, or in OK, where only CLRE and INIT write the error record (R36). -/
inductive Ends (i : Instr) (s : State) : State → Prop where
  | raised {c : Code} {d : Data} (h : Raises s i c d) : Ends i s (s.errored c d)
  | answered (u : State) (d : Data) (h : i ∉ [.clre, .init] → u.record = s.record) : Ends i s (u.answered .ok d)

namespace Raises

variable {i : Instr} {s : State} {c : Code} {d : Data}

theorem ne_ok (h : Raises s i c d) : c ≠ .ok := by
  cases h <;> decide

theorem exec_eq (h : Raises s i c d) : exec i s = .next (s.errored c d) := by
  cases h with
  | seed h => exact exec_seed_empty s h
  | rstr h => exact exec_rstr_invalid s _ h
  | unseeded hi h =>
    obtain rfl | rfl | rfl := hi
    · exact exec_next_unseeded s h
    · exact exec_word_unseeded s h
    · exact exec_snap_unseeded s h
  | shrd h => exact exec_shrd_invalid _ s h
  | rdcsr h => exact exec_rdcsr_invalid _ s h

/-- A cause is in the registers an error leaves alone (R296). -/
theorem errored (h : Raises s i c d) (c' : Code) (d' : Data) : Raises (s.errored c' d') i c d := by
  cases h with
  | seed h => exact .seed h
  | rstr h => exact .rstr h
  | unseeded hi h => exact .unseeded hi h
  | shrd h => exact .shrd h
  | rdcsr h => exact .rdcsr h

end Raises

theorem drawBytes_record (n : Nat) (s : State) : (State.drawBytes n s).2.record = s.record := by
  rw [(drawBytes_spec n s).2.1]
  rfl

/-- Where the outcome `o` is a next state, it is one the command `i` ends in on `s`. -/
def EndsIn (i : Instr) (s : State) (o : Host.Outcome State Fault Refusal) : Prop := ∀ t, o = .next t → Ends i s t

namespace EndsIn

variable {i : Instr} {s u : State} {o o' : Host.Outcome State Fault Refusal}

theorem respond {d : Data} (h : i ∉ [.clre, .init] → u.record = s.record) : EndsIn i s (respond d u) :=
  fun _ ht => by cases ht; exact .answered u d h

theorem raise {c : Code} {d : Data} (h : Raises s i c d) : EndsIn i s (raise c d s) :=
  fun _ ht => by rw [raise_eq c d s h.ne_ok] at ht; cases ht; exact .raised h

theorem ite {c : Prop} [Decidable c] (h : c → EndsIn i s o) (h' : ¬ c → EndsIn i s o') :
    EndsIn i s (if c then o else o') := by
  split
  · next hc => exact h hc
  · next hc => exact h' hc

end EndsIn

/-- Every command raises an error for its cause or, without one, answers OK. -/
theorem exec_ends (i : Instr) (s : State) : EndsIn i s (exec i s) := by
  cases i with
  | nop | kclr | ldbeg => exact .respond fun _ => rfl
  | init | clre => exact .respond fun h => absurd (by simp) h
  | aseed => exact .respond fun _ => drawBytes_record s.build.entLen s.clearKey
  | keyb _ | ldsym _ => exact .ite (fun _ => .respond fun _ => rfl) fun _ => .respond fun _ => rfl
  | seed => exact .ite (fun h => .raise (.seed h)) fun _ => .respond fun _ => rfl
  | next | word | snap =>
    exact .ite (fun _ => .respond fun _ => rfl) fun h => .raise (.unseeded (by simp) (by simpa using h))
  | shrd _ => exact .ite (fun _ => .respond fun _ => rfl) fun h => .raise (.shrd (by simpa using h))
  | rdcsr _ => exact .ite (fun _ => .respond fun _ => rfl) fun h => .raise (.rdcsr (by simpa [csrIndexValid] using h))
  | rstr =>
    rw [exec, execRstr]
    split
    · next h => exact .raise (.rstr h)
    · exact .respond fun _ => rfl

section
variable {i : Instr} {s t : State}

/-- A command that does not answer OK raised an error. -/
theorem exists_raises (h : exec i s = .next t) (hc : rspCode t.RSP ≠ 0#4) : ∃ c d, Raises s i c d ∧ t = s.errored c d := by
  cases exec_ends i s t h with
  | raised hraises => exact ⟨_, _, hraises, rfl⟩
  | answered u d _ => exact absurd (rspCode_rspWord .ok d) hc

end

/-- Settles O24: the state after an error is `State.errored`, and the code recorded is the one answered. -/
theorem errorChangesOnlyRecord : Obligations.ErrorChangesOnlyRecord := by
  intro i s t h hc
  obtain ⟨c, d, -, rfl⟩ := exists_raises h hc
  rw [State.errored_RSP, rspCode_rspWord]
  rfl

/-- Settles O26: the cause still holds on the state its error left, so the same error is raised there, where it changes nothing. -/
theorem sameErrorAgain : Obligations.SameErrorAgain := by
  intro i s t h hc
  obtain ⟨c, d, hraises, rfl⟩ := exists_raises h hc
  exact (hraises.errored c d).exec_eq

/-- The reasons of R205 in their order, each with its number (R206). -/
theorem State.restoreReason_eq_some {s : State} {r : Data} (h : s.restoreReason = some r) :
    (r = 2#32 ∧ s.LDOVF = true) ∨
      (r = 1#32 ∧ s.LDOVF = false ∧ s.CNT ≠ s.build.IMG_LEN) ∨
      (r = 3#32 ∧ s.LDOVF = false ∧ s.CNT = s.build.IMG_LEN ∧ s.LDBAD = true) ∨
      (r = 4#32 ∧ s.LDOVF = false ∧ s.CNT = s.build.IMG_LEN ∧ s.LDBAD = false ∧
        ¬ Bijective s.build.N fun k => s.shadowAt (2 + k)) := by
  rw [← s.shadowIsPermutation_iff]
  unfold State.restoreReason at h
  split_ifs at h with hovf hc hbad hp <;> cases h
  · exact .inl ⟨rfl, hovf⟩
  · exact .inr (.inl ⟨rfl, by simpa using hovf, hc⟩)
  · exact .inr (.inr (.inl ⟨rfl, by simpa using hovf, not_not.mp hc, hbad⟩))
  · exact .inr (.inr (.inr ⟨rfl, by simpa using hovf, not_not.mp hc, by simpa using hbad, hp⟩))

/-- Settles O25, by the causes of `Raises`. -/
theorem responseCodesOfCommands : Obligations.ResponseCodesOfCommands := by
  intro i s t h
  cases exec_ends i s t h with
  | answered u d _ => exact ⟨rfl, .inl (rspCode_rspWord .ok d)⟩
  | raised hraises =>
    refine ⟨rfl, .inr ?_⟩
    rw [State.errored_RSP, rspCode_rspWord, rspData_rspWord]
    cases hraises with
    | seed hk => exact .inl ⟨rfl, rfl, hk, rfl⟩
    | rstr hr => exact .inr (.inl ⟨rfl, rfl, State.restoreReason_eq_some hr⟩)
    | unseeded hi hs => exact .inr (.inr (.inl ⟨rfl, hi, hs, rfl⟩))
    | shrd ha =>
      rw [← Bool.not_eq_true, s.shadowIndexValid_iff] at ha
      exact .inr (.inr (.inr ⟨rfl, rfl, .inl ⟨_, rfl, by omega⟩⟩))
    | rdcsr hn => exact .inr (.inr (.inr ⟨rfl, rfl, .inr ⟨_, rfl, not_le.mp hn⟩⟩))

/-! ### The record gates nothing -/

/-- `s` with another error record. -/
def State.withRecord (s : State) (e : Bool) (l : BitVec 4) : State := { s with ERR := e, LASTERR := l }

/-- Where the outcome `o` is a next state, `o'` is that state up to the error record. -/
def SameButRecord (o o' : Host.Outcome State Fault Refusal) : Prop := ∀ t, o = .next t → ∃ e l, o' = .next (t.withRecord e l)

namespace SameButRecord

variable {o o' p p' : Host.Outcome State Fault Refusal}

theorem next {u : State} {e : Bool} {l : BitVec 4} : SameButRecord (.next u) (.next (u.withRecord e l)) :=
  fun _ ht => by cases ht; exact ⟨e, l, rfl⟩

theorem ite {c : Prop} [Decidable c] (h : SameButRecord o o') (h' : SameButRecord p p') :
    SameButRecord (if c then o else p) (if c then o' else p') := by
  split
  · exact h
  · exact h'

end SameButRecord

theorem drawBytes_withRecord (n : Nat) (s : State) (e : Bool) (l : BitVec 4) :
    State.drawBytes n (s.withRecord e l) = ((State.drawBytes n s).1, (State.drawBytes n s).2.withRecord e l) := by
  obtain ⟨hbytes, hent, hdraws⟩ := drawBytes_congr n (s := s.withRecord e l) (t := s) rfl rfl
  refine Prod.ext hbytes ?_
  rw [(drawBytes_spec n (s.withRecord e l)).2.1, (drawBytes_spec n s).2.1, hdraws]
  rfl

/-- `STATUS` is the one register that shows the record (10_state.md R39). -/
theorem csr_withRecord {n : BitVec 12} (hn : n ≠ 1#12) (s : State) (e : Bool) (l : BitVec 4) :
    (s.withRecord e l).csr n = s.csr n := by
  have h1 : n.toNat ≠ 1 := fun h => hn (BitVec.eq_of_toNat_eq h)
  simp only [State.csr, if_neg h1]
  rfl

theorem exec_withRecord {i : Instr} (hi : i ≠ .rdcsr 1#12) (s : State) (e : Bool) (l : BitVec 4) :
    SameButRecord (exec i s) (exec i (s.withRecord e l)) := by
  cases i with
  | nop | init | kclr | ldbeg | clre => exact .next
  | keyb _ | seed | next | word | snap | shrd _ | ldsym _ => exact .ite .next .next
  | aseed =>
    rw [exec_aseed, exec_aseed]
    rw [show State.drawBytes (s.withRecord e l).build.entLen (s.withRecord e l).clearKey = _ from
      drawBytes_withRecord s.build.entLen s.clearKey e l]
    exact .next
  | rstr =>
    cases h : s.restoreReason with
    | some r =>
      rw [exec_rstr_invalid s r h, exec_rstr_invalid (s.withRecord e l) r h]
      exact .next
    | none =>
      rw [exec_rstr_valid s h, exec_rstr_valid (s.withRecord e l) h]
      exact .next
  | rdcsr n =>
    have hn : n ≠ 1#12 := fun h => hi (congrArg _ h)
    rw [exec, exec, execRdcsr, execRdcsr, csr_withRecord hn]
    exact .ite .next .next

/-- Settles O27, command by command. -/
theorem errorRecordGatesNothing : Obligations.ErrorRecordGatesNothing := by
  intro i s t e l hi h
  obtain ⟨e', l', hu⟩ := exec_withRecord hi s e l t h
  exact ⟨_, hu, rfl⟩

end Sys2Proof.Machine
end

section
/-!
PROOFS. Which commands write which register (10_state.md section 1, the columns 'written by'). Per bank of registers, the commands
outside its list leave the whole bank alone; where a command of the list writes only a part of the bank, the other part is a
lemma of its own.
-/

namespace Sys2Proof.Machine

variable {i : Instr}

/-- The key buffer with its count and flag (10_state.md R25 to R27). -/
def State.keyBank (s : State) : Memory × Nat × Bool := (s.K, s.KLEN, s.KTRUNC)

theorem State.keyBank_eq_iff (s t : State) :
    t.keyBank = s.keyBank ↔ t.K = s.K ∧ t.KLEN = s.KLEN ∧ t.KTRUNC = s.KTRUNC := by
  simp only [State.keyBank, Prod.mk.injEq]

/-- RSTR, rejected or not, keeps what its two endings keep. -/
theorem exec_rstr_keeps {α : Type} {f : State → α} (hraised : ∀ r, f (s.errored .eState r) = f s)
    (hok : f (s.installImage.answered .ok 0#32) = f s) : Keeps f s (exec .rstr s) := by
  cases h : s.restoreReason with
  | some r => rw [exec_rstr_invalid s r h]; exact .next (hraised r)
  | none => rw [exec_rstr_valid s h]; exact .next hok

theorem exec_keeps_liveBank (hi : i ∉ [.seed, .aseed, .next, .word, .rstr, .init]) (s : State) :
    Keeps State.liveBank s (exec i s) := by
  cases i with
  | seed | aseed | next | word | rstr | init => exact absurd (by simp) hi
  | nop | kclr | ldbeg | clre => exact .next rfl
  | keyb _ | snap | shrd _ | ldsym _ | rdcsr _ => exact .ite (.next rfl) (.next rfl)

/-- NEXT and WORD write the table and the cursors only. -/
theorem exec_keeps_SEEDED (hi : i ∉ [.seed, .aseed, .rstr, .init]) (s : State) : Keeps State.SEEDED s (exec i s) := by
  cases i with
  | seed | aseed | rstr | init => exact absurd (by simp) hi
  | next | word => exact .ite (.next rfl) (.next rfl)
  | _ => exact fun t h => congrArg (·.2.2.2) (exec_keeps_liveBank (by simp) s t h)

theorem exec_keeps_keyBank (hi : ¬ (i ∈ [.kclr, .seed, .aseed, .init] ∨ ∃ b, i = .keyb b)) (s : State) :
    Keeps State.keyBank s (exec i s) := by
  cases i with
  | kclr | seed | aseed | init => exact absurd (.inl (by simp)) hi
  | keyb b => exact absurd (.inr ⟨b, rfl⟩) hi
  | nop | ldbeg | clre => exact .next rfl
  | next | word | snap | shrd _ | ldsym _ | rdcsr _ => exact .ite (.next rfl) (.next rfl)
  | rstr => exact exec_rstr_keeps (fun _ => rfl) rfl

theorem exec_keeps_shadowBank_of_unlisted (hi : ¬ (i ∈ [.snap, .ldbeg, .init] ∨ ∃ v, i = .ldsym v)) (s : State) :
    Keeps State.shadowBank s (exec i s) := by
  by_cases hr : i = .rstr
  · subst hr
    exact exec_rstr_keeps (fun _ => rfl) rfl
  · simp only [List.mem_cons, List.not_mem_nil, or_false, not_or, not_exists] at hi
    obtain ⟨⟨hsnap, hldbeg, hinit⟩, hldsym⟩ := hi
    exact exec_rewindSafe_keeps_shadowBank ⟨hinit, hsnap, hldbeg, hr, hldsym⟩ s

/-- KCLR clears the count and the flag and leaves the bytes. -/
theorem exec_keeps_K (hi : ¬ (i ∈ [.seed, .aseed, .init] ∨ ∃ b, i = .keyb b)) (s : State) : Keeps State.K s (exec i s) := by
  by_cases hk : i = .kclr
  · subst hk
    exact .next rfl
  · exact fun t h => congrArg Prod.fst (exec_keeps_keyBank (by simpa [hk] using hi) s t h)

/-- LDBEG clears the count and the flags and leaves the symbols. -/
theorem exec_keeps_SH (hi : ¬ (i ∈ [.snap, .init] ∨ ∃ v, i = .ldsym v)) (s : State) : Keeps State.SH s (exec i s) := by
  by_cases hl : i = .ldbeg
  · subst hl
    exact .next rfl
  · exact fun t h => congrArg Prod.fst (exec_keeps_shadowBank_of_unlisted (by simpa [hl] using hi) s t h)

/-- A command that answers OK leaves the error record, unless it is one of the two that clear it (10_state.md R36). -/
theorem record_of_exec_ok {s t : State} (h : exec i s = .next t) (hi : ¬ (rspCode t.RSP ≠ 0#4 ∨ i ∈ [.clre, .init])) :
    t.ERR = s.ERR ∧ t.LASTERR = s.LASTERR := by
  obtain ⟨hok, hlist⟩ := not_or.mp hi
  cases exec_ends i s t h with
  | raised hraises =>
    rw [State.errored_RSP, rspCode_rspWord, not_not, Code.bits_eq_zero_iff] at hok
    exact absurd hok hraises.ne_ok
  | answered u d hrecord => exact Prod.mk.inj (hrecord hlist)

/-- Settles O28: outside its list every command keeps the register, and under OK the error record. -/
theorem onlyListedCommandsWriteEachRegister : Obligations.OnlyListedCommandsWriteEachRegister := by
  intro i s t h
  have hlive hi := (s.liveBank_eq_iff t).mp (exec_keeps_liveBank (i := i) hi s t h)
  have hkey hi := (s.keyBank_eq_iff t).mp (exec_keeps_keyBank (i := i) hi s t h)
  have hshadow hi := (s.shadowBank_eq_iff t).mp (exec_keeps_shadowBank_of_unlisted (i := i) hi s t h)
  have hrecord hi := record_of_exec_ok h hi
  simp only [imp_and] at hlive hkey hshadow hrecord
  obtain ⟨hS, hI, hJ, -⟩ := hlive
  obtain ⟨-, hKLEN, hKTRUNC⟩ := hkey
  obtain ⟨-, hCNT, hLDBAD, hLDOVF⟩ := hshadow
  obtain ⟨hERR, hLASTERR⟩ := hrecord
  have hSEEDED hi := exec_keeps_SEEDED (i := i) hi s t h
  have hK hi := exec_keeps_K (i := i) hi s t h
  have hSH hi := exec_keeps_SH (i := i) hi s t h
  exact ⟨not_imp_comm.mp hS, not_imp_comm.mp hI, not_imp_comm.mp hJ, not_imp_comm.mp hSEEDED, not_imp_comm.mp hK,
    not_imp_comm.mp hKLEN, not_imp_comm.mp hKTRUNC, not_imp_comm.mp hSH, not_imp_comm.mp hCNT, not_imp_comm.mp hLDBAD,
    not_imp_comm.mp hLDOVF, not_imp_comm.mp hERR, not_imp_comm.mp hLASTERR⟩

end Sys2Proof.Machine
end

section
/-!
PROOFS. Bring-up and lifecycle (70_reset_and_hazards.md): reset by the pin (R330), a step between commands never stops (60_exceptions.md
R298), and the two ways to a live state of R335: a key of any length loaded and seeded from, an image loaded and restored.
-/

namespace Sys2Proof.Machine

/-! ### Reset and steps -/

/-- Settles O49: an edge with `rst = 1` is the reset whatever else holds, and no port is ready or valid under it. -/
theorem resetPinWinsFromAnyPhase : Obligations.ResetPinWinsFromAnyPhase := fun p s h =>
  ⟨_, clockEdge_of_rst h, rfl, rfl, rfl, rfl, rfl, rfl, rfl, rfl, rfl, rfl, rfl, rfl, rfl,
    by simp [State.outputs, h], by simp [State.outputs, h], by simp [State.outputs, h]⟩

/-- A command leaves the block between commands. -/
theorem exec_answers_idle (i : Instr) (s : State) : ∃ t, exec i s = .next t ∧ t.PH = .idle := by
  obtain ⟨t, ht, ⟨_, _, rfl⟩ | ⟨_, _, _, rfl⟩⟩ := exec_answers i s
  · exact ⟨_, ht, rfl⟩
  · exact ⟨_, ht, rfl⟩

/-- Settles O35: the step takes a response, or does nothing, or runs a word, which is a command or is answered `E_ILLEGAL`. -/
theorem stepNeverStopsBetweenCommands : Obligations.StepNeverStopsBetweenCommands := by
  intro s hp
  cases hr : s.RV with
  | true => exact ⟨_, step_of_waiting hp hr, hp⟩
  | false =>
    cases hc : s.cmdIn with
    | nil => exact ⟨_, step_of_no_word hp hr hc, hp⟩
    | cons w rest =>
      rw [step_of_word hp hr hc]
      cases hd : decode w with
      | ok i => rw [runWord_of_decode hd]; exact exec_answers_idle i _
      | error e => exact ⟨_, runWord_of_illegal hd _, rfl⟩

/-! ### Loading a key -/

/-- A block of the build `b` into which the key `key` has been loaded: the buffer holds what fits of it (40_key_and_seed.md R124). -/
structure KeyLoaded (b : Build) (key : List Byte) (s : State) : Prop where
  build : s.build = b
  bytes : s.key = key.take b.KMAX

theorem State.length_key (s : State) : s.key.length = s.KLEN := by
  simp [State.key]

namespace KeyLoaded

variable {b : Build} {key : List Byte} {s : State}

theorem klen (h : KeyLoaded b key s) : s.KLEN = min b.KMAX key.length := by
  rw [← s.length_key, h.bytes, List.length_take]

/-- One KEYB: with room the byte is appended, without it the byte is beyond what fits. -/
theorem keyb (h : KeyLoaded b key s) (v : Byte) :
    ∃ t, exec (.keyb v) s = .next t ∧ KeyLoaded b (key ++ [v]) t.takeResponse := by
  have hklen := h.klen
  obtain ⟨rfl, hbytes⟩ := h
  by_cases hroom : s.KLEN < s.build.KMAX
  · refine ⟨_, exec_keyb_room v s hroom, rfl, ?_⟩
    calc (s.appendKey v).key = s.key ++ [v] := keyBytes_put s.build s.K s.KLEN v
      _ = key ++ [v] := by rw [hbytes, List.take_of_length_le (by omega)]
      _ = (key ++ [v]).take s.build.KMAX := by
        rw [List.take_of_length_le (by rw [List.length_append, List.length_singleton]; omega)]
  · refine ⟨_, exec_keyb_full v s hroom, rfl, ?_⟩
    rw [List.take_append_of_le_length (by omega), ← hbytes]
    rfl

/-- The rest of a key, byte by byte. -/
theorem run_keyb (h : KeyLoaded b key s) (rest : List Byte) :
    ∃ t, runCommands (rest.map Instr.keyb) s = .next t ∧ KeyLoaded b (key ++ rest) t := by
  induction rest generalizing key s with
  | nil => exact ⟨s, rfl, by rwa [List.append_nil]⟩
  | cons v rest ih =>
    obtain ⟨t, ht, hl⟩ := h.keyb v
    obtain ⟨u, hu, hl'⟩ := ih hl
    exact ⟨u, by simp only [List.map_cons, runCommands, ht, hu], by rwa [List.append_cons]⟩

theorem klen_ne_zero (h : KeyLoaded b key s) (hkey : key ≠ []) : s.KLEN ≠ 0 := by
  have hmax : 0 < b.KMAX := Build.N_pos b
  have hlen := List.length_pos_of_ne_nil hkey
  have hklen := h.klen
  omega

/-- What fits of a key has the key schedule of the whole key (40_key_and_seed.md R130). -/
theorem ksa_key (h : KeyLoaded b key s) : ksa b s.key = ksa b key := by
  rw [h.bytes]
  by_cases hlen : b.KMAX < key.length
  · exact longKeysAgree.2 b key hlen
  · rw [List.take_of_length_le (not_lt.mp hlen)]

end KeyLoaded

/-- KEYSTR of any key into any block. -/
theorem run_keyCommands (s : State) (key : List Byte) :
    ∃ t, runCommands (keyCommands key) s = .next t ∧ KeyLoaded s.build key t := by
  have hempty : KeyLoaded s.build [] (s.clearKey.answered .ok 0#32).takeResponse := ⟨rfl, List.take_nil.symm⟩
  obtain ⟨t, ht, hl⟩ := hempty.run_keyb key
  exact ⟨t, by simpa only [keyCommands, runCommands, exec_kclr] using ht, hl⟩

/-- Settles O42: SEED runs over what fits of the key, and that has the key schedule of the whole key. -/
theorem keyLoadedThenSeeded : Obligations.KeyLoadedThenSeeded := by
  intro s key hkey
  obtain ⟨u, hu, hl⟩ := run_keyCommands s key
  refine ⟨((u.seedWith u.key).answered .ok 0#32).takeResponse, ?_, rfl, rfl, rfl, rspCode_rspWord .ok 0#32, fun a ha => ?_⟩
  · rw [runCommands_append hu]
    simp only [runCommands, exec_seed_key u (hl.klen_ne_zero hkey)]
  · calc (u.seedWith u.key).tableAt a = (elem s.build .S (ksa s.build u.key) a).toNat := by rw [← hl.build]; rfl
      _ = specKsa s.build.N key a := by rw [hl.ksa_key, elem_ksa_eq_specKsa s.build key ha]

/-! ### Loading an image -/

theorem State.image_map_toNat (s : State) :
    s.image.map BitVec.toNat = s.I.toNat :: s.J.toNat :: (List.range s.build.N).map s.tableAt := by
  rw [State.image_eq, List.map_cons, List.map_cons, List.map_map]
  rfl

/-- Settles O44: the image of the restored block is the one loaded, each symbol stored as the number it is. -/
theorem loadedImageBecomesLiveState : Obligations.LoadedImageBecomesLiveState := by
  intro s image hlen hlt hnd
  obtain ⟨t, ht, hok, hbuild, hseeded, himage⟩ := run_loadCommands_rstr s hlen hlt hnd
  refine ⟨t, ht, hok, hseeded, ?_⟩
  calc image.map BitVec.toNat = (image.map (valueSym s.build)).map BitVec.toNat := by
        rw [List.map_map]
        exact List.map_congr_left fun v hv => (valueSym_toNat s.build v (hlt v hv)).symm
    _ = t.I.toNat :: t.J.toNat :: (List.range s.build.N).map t.tableAt := by rw [← himage, t.image_map_toNat, hbuild]

end Sys2Proof.Machine
end

section
/-!
PROOFS. Calls the host's own checks reject (60_exceptions.md R293): a call without commands sends none.
-/

namespace Sys2Proof.Machine

theorem restoreCompactCommands_of_error {b : Build} {text : List Char} {e : HostError} (h : parseImage b text = .error e) :
    restoreCompactCommands b text = .error e := by
  rw [restoreCompactCommands, h]

/-- Settles O60: each call passes its check's error on to `hostCall`, which sends nothing. -/
theorem rejectedCallsSendNothing : Obligations.RejectedCallsSendNothing := by
  refine ⟨fun a e s h => ?_, fun args e s h => nextInteger_of_error h s, fun a e s h => ?_, fun text e s h => ?_⟩
  · rw [construct, h, hostCall_error]
  · rw [restore, h, hostCall_error]
  · rw [restoreCompact, restoreCompactCommands_of_error h, hostCall_error]

end Sys2Proof.Machine
end
